-- ==== Sys2Proof/Word.lean ====
section
/-! DEFINITION. The word types of the SQ-1608 and the one vector operation core Lean's kernel cannot run. -/

namespace Sys2Proof

/-- A word of the register window, 16 bits (R192). -/
abbrev Word := BitVec 16

/-- A timebase value, 32 bits; sums and differences wrap (R3, R11). -/
abbrev Time := BitVec 32

/-- Every element of a vector changed by `f`. Defined over the list of elements, because `Vector.map`
is built on a loop that the kernel does not evaluate. -/
def mapAll {α β : Type} {n : Nat} (f : α → β) (v : Vector α n) : Vector β n :=
  ⟨⟨v.toList.map f⟩, by simp⟩

end Sys2Proof
end

