-- ==== Sys2Proof/Config.lean ====
section
/-! DEFINITION. The constants the spec fixes for the part: capacities, limits and identification.
The spec leaves no result value open, so there is no free value here. -/

namespace Sys2Proof.Config

/-- PART_ID reads 1608h at every moment (R194). -/
def partId : Word := 0x1608

/-- The number of slots of the agenda (R18). -/
def slotCount : Nat := 256

/-- The horizon: the greatest lead of a time in the future (R11). -/
def horizon : Nat := 2147483647

/-- The capture queue never holds more than 32 records (R116). -/
def captureCapacity : Nat := 32

/-- The report queue never holds more than 64 records (R165). -/
def reportCapacity : Nat := 64

/-- The pending reaction FIFO never holds more than 8 records (R135). -/
def fifoCapacity : Nat := 8

/-- The staging holds at most 16 edits (R144). -/
def stagingCapacity : Nat := 16

/-- A lost counter stops at 255 (R117, R136, R166). -/
def lostMax : Nat := 255

/-- An entry's missed count stops at 65535 (R15). -/
def missedMax : Nat := 65535

/-- The greatest RESERVE (R22). -/
def reserveMax : Nat := 64

/-- The greatest POOL_LOW_TH (R23). -/
def poolLowMax : Nat := 255

/-- The greatest guard, in ticks (R76). -/
def guardMax : Nat := 1023

/-- The greatest FILTER_INT (R109). -/
def filterIntMax : Nat := 64

/-- The greatest filter length, in samples (R107). -/
def filterMax : Nat := 8

/-- The bits of IRQ_EN that hold an enable: 0..10, 12 and 13 (R198). A bit with no field reads 0 and
its written value is ignored (R193). -/
def irqEnableMask : Word := 0x37FF

end Sys2Proof.Config
end

