-- ==== Sys2Proof/Syntax.lean ====
section
/-! DEFINITION. The commands of the SQ-1608: one constructor for each row of spec/opcode_table.json.
The table gives its rows no fields; the operands below are those the rows' rules name (log 16, log 20). -/

namespace Sys2Proof

/-- What the prescaler counts (R1). -/
inductive TickSource where
  /-- periods of the core clock CLK -/
  | internal
  /-- rising edges on TCLK -/
  | external
deriving DecidableEq, Repr

/-- Which part of an agenda service a service row stands for (R52, R53, log 2). -/
inductive ServicePart where
  /-- the grant and the service it grants, with no event of another block between -/
  | whole
  /-- the grant alone: the agenda becomes SERVING, and other blocks' events may follow -/
  | grant
  /-- the next thing the service under way asks of another block or tells it: one action request, one
  offered record, one notice; the last one ends the service -/
  | advance
  /-- the rest of the service under way, with no event of another block between -/
  | finish
deriving DecidableEq, Repr

/-- A command of the part: one constructor per row of the opcode table. -/
inductive Instr where
  /-- TICK (R3): the counted source event that completes a tick interval -/
  | tick
  /-- START (R4): a TB_CTRL write of RUN = RUNNING with these SOURCE and PRESCALE fields -/
  | start (source : TickSource) (prescale : BitVec 8)
  /-- STOP (R5): a TB_CTRL write of RUN = STOPPED with these SOURCE and PRESCALE fields -/
  | stop (source : TickSource) (prescale : BitVec 8)
  /-- TB_CONFIG (R6): a TB_CTRL write of the whole word -/
  | tbConfig (value : Word)
  /-- TIME_HI_WRITE (R8) -/
  | timeHiWrite (value : Word)
  /-- TIME_LO_WRITE (R9) -/
  | timeLoWrite (value : Word)
  /-- TIME_LO_READ (R10) -/
  | timeLoRead
  /-- EXPIRY_SERVICE (R36) -/
  | expiryService (part : ServicePart)
  /-- INSERT (R178): a CMD write of 01h -/
  | insert
  /-- INSERT_SERVICE (R179) -/
  | insertService (part : ServicePart)
  /-- CANCEL (R173): a CMD write of 02h -/
  | cancel
  /-- CANCEL_SERVICE (R180) -/
  | cancelService (part : ServicePart)
  /-- RETIME (R173): a CMD write of 03h -/
  | retime
  /-- RETIME_SERVICE (R181) -/
  | retimeService (part : ServicePart)
  /-- CANCEL_TAG (R173): a CMD write of 04h -/
  | cancelTag
  /-- CANCEL_TAG_SERVICE (R182) -/
  | cancelTagService (part : ServicePart)
  /-- QUERY (R183): a CMD write of 05h -/
  | query
  /-- QUERY_SERVICE (R46) -/
  | queryService (part : ServicePart)
  /-- HEAD (R173): a CMD write of 06h -/
  | head
  /-- HEAD_SERVICE (R184) -/
  | headService (part : ServicePart)
  /-- ENGINE_RESET (R173): a CMD write of 3Fh -/
  | engineReset
  /-- ENGINE_RESET_SERVICE (R49) -/
  | engineResetService (part : ServicePart)
  /-- BAD_COMMAND (R173): a CMD write of a value that is no command code -/
  | badCommand (value : Word)
  /-- LINE_SET (R186): a CMD write of 08h -/
  | lineSet
  /-- GROUP_START (R98): a CMD write of 10h -/
  | groupStart
  /-- GROUP_STOP (R99): a CMD write of 11h -/
  | groupStop
  /-- TRIP (R100): a CMD write of 12h -/
  | trip
  /-- RELEASE (R101): a CMD write of 13h -/
  | release
  /-- TRIP_PIN_FALL (R90): a fall of this trip pin, seen as R89 gives -/
  | tripPinFall (pin : Fin 2)
  /-- PURGE (R48) of this group -/
  | purge (group : Fin 4) (part : ServicePart)
  /-- GUARD_END (R79) of this pair -/
  | guardEnd (pair : Fin 8)
  /-- INPUT_CHANGE (R110): a sample of this input at this level (true is high) -/
  | inputChange (input : Fin 8) (level : Bool)
  /-- FILTER_SAMPLE (R111): a sample moment; bit n is the sampled level of input n -/
  | filterSample (levels : BitVec 8)
  /-- REACTION_SCHEDULE (R139) -/
  | reactionSchedule (part : ServicePart)
  /-- REACTION_CANCEL_TAG (R140) -/
  | reactionCancelTag (part : ServicePart)
  /-- ARM (R127): a ROW0 write with control ARM, on the selected row -/
  | arm
  /-- DISARM (R126): a ROW0 write with control DISARM -/
  | disarm
  /-- REARM (R126): a ROW0 write with control REARM -/
  | rearm
  /-- ROW_FIELD_WRITE (R130): a write of ROW0 (control NONE) to ROW6 -/
  | rowFieldWrite (word : Fin 7) (value : Word)
  /-- BATCH_INSERT (R189): a CMD write of 20h -/
  | batchInsert
  /-- BATCH_CANCEL (R145): a CMD write of 21h -/
  | batchCancel
  /-- BATCH_RETIME (R145): a CMD write of 22h -/
  | batchRetime
  /-- BATCH_COMMIT (R147): a CMD write of 23h -/
  | batchCommit
  /-- COMMIT_ENTRY_ANSWER (R148) -/
  | commitEntryAnswer
  /-- BATCH_DISCARD (R156): a CMD write of 24h -/
  | batchDiscard
  /-- BATCH_APPLY (R150) -/
  | batchApply (part : ServicePart)
  /-- HELD_BATCH_ANSWER (R150) -/
  | heldBatchAnswer
  /-- PARAMETER_WRITE (R171): a write of P0..P7 -/
  | parameterWrite (index : Fin 8) (value : Word)
  /-- LINE_CFG_WRITE (R65) -/
  | lineCfgWrite (line : Fin 16) (value : Word)
  /-- PAIR_CFG_WRITE (R76) -/
  | pairCfgWrite (pair : Fin 8) (value : Word)
  /-- GROUP_CFG_WRITE (R87) -/
  | groupCfgWrite (group : Fin 4) (value : Word)
  /-- STATUS_VIEW_SELECT (R88) -/
  | statusViewSelect (group : Fin 4) (value : Word)
  /-- IN_CFG_WRITE (R107) -/
  | inCfgWrite (input : Fin 8) (value : Word)
  /-- FILTER_INT_WRITE (R109) -/
  | filterIntWrite (value : Word)
  /-- CAP_POP (R118): a write of any value -/
  | capPop
  /-- CAP_STAT_WRITE (R119): a write of any value -/
  | capStatWrite
  /-- CAP_TH_WRITE (R120) -/
  | capThWrite (value : Word)
  /-- RPT_POP (R167): a write of any value -/
  | rptPop
  /-- RPT_STAT_WRITE (R168): a write of any value -/
  | rptStatWrite
  /-- RPT_TH_WRITE (R169) -/
  | rptThWrite (value : Word)
  /-- REACT_STAT_WRITE (R137): a write of any value -/
  | reactStatWrite
  /-- FLAGS_WRITE (R196) -/
  | flagsWrite (value : Word)
  /-- IRQ_EN_WRITE (R198) -/
  | irqEnWrite (value : Word)
  /-- REGISTER_WRITE (R193): a write to any other word of the window -/
  | registerWrite (address : BitVec 7) (value : Word)
  /-- DEVICE_RESET (R60): RESET# low, or power-up -/
  | deviceReset
  /-- SOURCE_EVENT (R2): an event of this tick source -/
  | sourceEvent (source : TickSource)
  /-- SETTLED_LEVEL_FOLLOWS_PIN (R110): a sample of a disabled input at this level -/
  | settledLevelFollowsPin (input : Fin 8) (level : Bool)
  /-- TRIP_PIN_RISE (R89): this trip pin is sampled high again -/
  | tripPinRise (pin : Fin 2)
deriving DecidableEq, Repr

end Sys2Proof
end

