-- ==== Sys2Proof/Decode.lean ====
section
/-! DEFINITION. The decoder of the opcode table's bits. spec/opcode_table.json gives no bits for any of
its 68 rows, so no word spells a command (log 11). The encodings the spec does give, of registers and
parameters, are in Machine/Operands.lean. -/

namespace Sys2Proof

/-- The command that a word of `nbits` bits spells by the opcode table: the table gives no row any
bits, so no word spells one. -/
def decodeTableWord (_nbits _w : Nat) : Option Instr := none

end Sys2Proof
end

