-- ==== Sys2Proof/Machine/State.lean ====
section
/-! DEFINITION. The state of the SQ-1608, block by block as the spec gives it, and its device-reset
values. Every block owns its own record; `pending` is the model's queue of commands. -/

namespace Sys2Proof.Machine

/-! ## Why a step could stop -/

/-- No command of this part faults: the spec names no fault (a refused access is a next state, R195;
a failed command posts a result code, R175). Closed, with no constructor, so no step can raise one. -/
inductive Fault
deriving DecidableEq, Repr

/-- Why a command has no meaning. -/
inductive Refusal where
  /-- Raised by `exec`'s arm for a row that has no meaning yet, and by nothing else. Safe: the model
  stops where the part goes on. No arm raises it now. -/
  | notModelled (mnemonic : String)
deriving DecidableEq, Repr

/-! ## Time (chapter Time) -/

/-- The timebase's state (chapter Time, opening table; R14). -/
structure Timebase where
  /-- TIME, "now" (R3) -/
  time : Time
  /-- the run state: true is RUNNING (R4, R5) -/
  running : Bool
  /-- the tick source (R1) -/
  source : TickSource
  /-- the PRESCALE field: the prescale less one (R6) -/
  prescaleField : BitVec 8
  /-- source events counted since the last tick or the last start (R2) -/
  phase : Nat
  /-- the high half waiting for a TIME_LO write (R8) -/
  writeHold : Word
  /-- the high half captured by the last TIME_LO read (R10) -/
  snapshot : Word
deriving DecidableEq, Repr

/-! ## The agenda (chapter The Agenda) -/

/-- A handle: the pair (slot, generation) (R15, R21). -/
structure Handle where
  slot : BitVec 8
  gen : BitVec 8
deriving DecidableEq, Repr

/-- The three requests the line unit answers (R71). -/
inductive Request where
  | active | inactive | toggle
deriving DecidableEq, Repr

/-- The action codes of the control word (R199). -/
inductive Action where
  | active | inactive | toggle | pulse | mark
deriving DecidableEq, Repr

/-- Which act of a PULSE repetition comes next (R15). -/
inductive PulsePhase where
  | assertAct | returnAct
deriving DecidableEq, Repr

/-- What an entry does: its action, with the line, width and phase present exactly for the actions
that have them (R15). -/
inductive Job where
  /-- ACTIVE, INACTIVE or TOGGLE on a line -/
  | drive (line : Fin 16) (request : Request)
  /-- PULSE on a line: ASSERT, then RETURN `width` ticks later -/
  | pulse (line : Fin 16) (width : Nat) (phase : PulsePhase)
  /-- MARK: no line -/
  | mark
deriving DecidableEq, Repr

/-- How often an entry repeats: the optional period and the optional count of R15, a count only with
a period. -/
inductive Repetition where
  | oneShot
  | endless (period : Nat)
  | counted (period count : Nat)
deriving DecidableEq, Repr

/-- What becomes of a due that is late when it is placed (R32, R39, R45). -/
inductive LatePolicy where
  | fire | drop
deriving DecidableEq, Repr

/-- Which report records an entry offers (R33). -/
inductive ReportOption where
  | none | final | every
deriving DecidableEq, Repr

/-- Who inserted an entry (R15). -/
inductive Origin where
  | host | batch
  | reaction (row : Fin 16)
deriving DecidableEq, Repr

/-- A pending entry (R15). -/
structure Entry where
  handle : Handle
  /-- the time of the entry's next act -/
  due : Time
  /-- for a PULSE the due of the ASSERT of the current repetition, for other actions the due -/
  anchor : Time
  job : Job
  repetition : Repetition
  late : LatePolicy
  option : ReportOption
  tag : Word
  origin : Origin
  /-- repetitions skipped since the last report offered, 0..65535 -/
  missed : Nat
deriving DecidableEq, Repr

/-- The fields an insertion carries before a slot is allocated (R16, R17). -/
structure Insertion where
  due : Time
  job : Job
  repetition : Repetition
  late : LatePolicy
  option : ReportOption
  tag : Word
deriving DecidableEq, Repr

/-- The agenda's state (chapter The Agenda, opening table; R50). -/
structure Agenda where
  /-- the pending entries in due order, head first (R24) -/
  list : List Entry
  /-- the free slots, oldest first (R19) -/
  free : List (BitVec 8)
  /-- the generation of each slot (R20) -/
  gens : Vector (BitVec 8) 256
  /-- RESERVE, 0..64 (R22) -/
  reserve : Nat
  /-- POOL_LOW_TH, 0..255 (R23) -/
  poolLow : Nat
deriving DecidableEq, Repr

/-! ## Reactions (chapter Reactions) -/

/-- The template of a SCHEDULE row (R124). -/
structure Template where
  line : Fin 16
  action : Action
  delay : BitVec 24
  width : Word
  late : LatePolicy
  option : ReportOption
  tag : Word
deriving DecidableEq, Repr

/-- Which service the agenda gives a pending reaction record (R135). -/
inductive PendingKind where
  | schedule | cancelTag
deriving DecidableEq, Repr

/-- A pending reaction record: the row that matched, the service it asks for, the capture time, a copy of the
row's template and a copy of its tag, all present in every record (R135). -/
structure PendingReaction where
  row : Fin 16
  kind : PendingKind
  time : Time
  template : Template
  tag : Word
deriving DecidableEq, Repr

/-- A direction of change (R107, R115). -/
inductive Edge where
  | rise | fall
deriving DecidableEq, Repr

/-- Which edges an input or a row admits (R107, R124). -/
inductive EdgeSelect where
  | rise | fall | both
deriving DecidableEq, Repr

/-- The state of a reaction row (R125). -/
inductive RowState where
  | off | armed | spent
deriving DecidableEq, Repr

/-- What a match of a row does (R124). -/
inductive RowKind where
  | schedule | trip | cancelTag
deriving DecidableEq, Repr

/-- A row of the reaction table (R124). The tag and the delay stand in the template; each field is
kept as written whatever the kind. -/
structure Row where
  state : RowState
  input : Fin 8
  edge : EdgeSelect
  kind : RowKind
  oneShot : Bool
  holdoff : Word
  lastMatch : Option Time
  template : Template
  /-- bit g names group g -/
  groupMask : BitVec 4
deriving DecidableEq, Repr

/-- The reaction unit's state (chapter Reactions, opening table; R141). -/
structure ReactionUnit where
  rows : Vector Row 16
  /-- the pending reaction FIFO, oldest first (R135) -/
  fifo : List PendingReaction
  lost : Nat
  /-- ROW_SEL (R128) -/
  sel : Fin 16
deriving DecidableEq, Repr

/-! ## Lines and pairs (chapter Output Lines and Interlocked Pairs) -/

/-- A line's mode (R65). -/
inductive LineMode where
  | off | drive
deriving DecidableEq, Repr

/-- A line's polarity (R65). -/
inductive Polarity where
  | activeHigh | activeLow
deriving DecidableEq, Repr

/-- A line's safe level (R65). -/
inductive SafeLevel where
  | inactive | active | float
deriving DecidableEq, Repr

/-- An output line: its configuration (R65) and its intended level (R67; true is ACTIVE). -/
structure Line where
  mode : LineMode
  polarity : Polarity
  safe : SafeLevel
  active : Bool
deriving DecidableEq, Repr

/-- A wait of a pair, naming one of its two lines (0 is line 2p, 1 is line 2p + 1) and an end time:
a running guard with its off-line, or a deferral with its deferred line (R78). -/
structure PairWait where
  side : Fin 2
  endTime : Time
deriving DecidableEq, Repr

/-- A pair of lines (R76, R78). -/
structure Pair where
  interlock : Bool
  /-- the configured guard, 0..1023 ticks -/
  guardTicks : Nat
  /-- none is IDLE, some is GUARD -/
  running : Option PairWait
  deferral : Option PairWait
deriving DecidableEq, Repr

/-- The line unit's state (R84). -/
structure LineUnit where
  lines : Vector Line 16
  pairs : Vector Pair 8
deriving DecidableEq, Repr

/-- The line unit's answer to an action request (R71). -/
inductive Answer where
  | applied | deferred | blocked
deriving DecidableEq, Repr

/-! ## Groups (chapter Groups and Trips) -/

/-- A group's state (R86). -/
inductive GroupState where
  | off | run | tripped
deriving DecidableEq, Repr

/-- How a group uses a trip pin (R87). -/
inductive TripUse where
  | none | level | edge
deriving DecidableEq, Repr

/-- A group's policy (R95, R96). -/
inductive TripPolicy where
  | hold | purge
deriving DecidableEq, Repr

/-- The cause of a trip request (R90). -/
inductive Cause where
  | pin0 | pin1 | reaction | host
deriving DecidableEq, Repr

/-- A set of causes (R86). -/
structure CauseSet where
  pin0 : Bool
  pin1 : Bool
  reaction : Bool
  host : Bool
deriving DecidableEq, Repr

/-- A group's record (chapter Groups and Trips, opening table; R105). -/
structure Group where
  state : GroupState
  use0 : TripUse
  use1 : TripUse
  policy : TripPolicy
  causes : CauseSet
  /-- none is NONE -/
  firstCause : Option Cause
  tripTime : Time
  purgePending : Bool
  lastPurgeCount : Nat
  view : Fin 4
deriving DecidableEq, Repr

/-! ## Inputs (chapter Input Lines and the Capture Queue) -/

/-- An input line: its configuration (R107) and its runtime state (R110, R111). Levels: true is high. -/
structure Input where
  enable : Bool
  edge : EdgeSelect
  queued : Bool
  /-- 0 for no filter, or 2..8 samples -/
  filter : Nat
  settled : Bool
  candidate : Bool
  runCount : Nat
  runStart : Time
  /-- the pin's level as last sampled (R108) -/
  sampled : Bool
deriving DecidableEq, Repr

/-- A capture record (R115). -/
structure Capture where
  seq : BitVec 8
  line : Fin 8
  edge : Edge
  time : Time
  filtered : Bool
deriving DecidableEq, Repr

/-- The capture unit's state (chapter Input Lines and the Capture Queue, opening table; R122). -/
structure CaptureUnit where
  inputs : Vector Input 8
  filterInt : Nat
  samplePhase : Nat
  /-- oldest first (R116) -/
  queue : List Capture
  seq : BitVec 8
  lost : Nat
  threshold : Nat
deriving DecidableEq, Repr

/-! ## Batches (chapter Batches) -/

/-- The batch state (R143). -/
inductive BatchState where
  | empty | opened | armed | applied | failed | abandoned
deriving DecidableEq, Repr

/-- A staged edit (R144). -/
inductive Edit where
  | insert (fields : Insertion)
  | cancel (handle : Handle)
  | retime (handle : Handle) (due : Time)
deriving DecidableEq, Repr

/-- A batch boundary (R147, R148). -/
inductive Boundary where
  | now
  | entry (handle : Handle)
deriving DecidableEq, Repr

/-- Why a batch failed or was abandoned (R203, BATCH_STAT). -/
inductive BatchReason where
  | stale | notPending | wrongState | late | noSlot | reserve | boundaryGone
deriving DecidableEq, Repr

/-- The result codes of the chapter Commands, 0..15. -/
inductive ResultCode where
  | none | ok | badCommand | badParam | noSlot | reserve | late | stale | notPending | wrongState
  | stillAsserted | purgePending | batchState | batchFull | deferred | blocked
deriving DecidableEq, Repr

/-- Whether an entry is still in the agenda at the end of its service (R38, R39). -/
inductive Disposition where
  | pending | done
deriving DecidableEq, Repr

/-- The result of a staged edit (R155). -/
structure EditResult where
  outcome : ResultCode
  disposition : Option Disposition
  /-- none reads 0 -/
  handle : Option Handle
deriving DecidableEq, Repr

/-- The batch unit's state (chapter Batches, opening table; R159), and the agenda's watch of the
boundary entry (R35, R149). -/
structure BatchUnit where
  state : BatchState
  staging : List Edit
  boundary : Option Boundary
  results : List EditResult
  failing : Nat
  /-- none is NONE -/
  reason : Option BatchReason
  sel : Fin 16
  watch : Option Handle
deriving DecidableEq, Repr

/-! ## Reports (chapter Reports) -/

/-- The kind of a report record (R162). -/
inductive ReportKind where
  | fired | late | deferred | blocked | suppressed | dropped | cancelled | purged | noSlot
deriving DecidableEq, Repr

/-- A report record (R161). -/
structure Report where
  kind : ReportKind
  final : Bool
  origin : Origin
  handle : Option Handle
  tag : Word
  line : Option (Fin 16)
  due : Time
  taken : Time
  missed : Nat
deriving DecidableEq, Repr

/-- The report queue's state (R170). -/
structure ReportQueue where
  /-- oldest first (R165) -/
  queue : List Report
  lost : Nat
  threshold : Nat
deriving DecidableEq, Repr

/-! ## The arbiter (chapter Claims and Service Order) -/

/-- The five claim sources of R51; a purge claim names its group. -/
inductive Claim where
  | expiry
  | purge (group : Fin 4)
  | apply
  | reaction
  | host
deriving DecidableEq, Repr

/-- How a batch ends by its apply service (R143, R153 to R155). -/
inductive BatchEnding where
  | applied (results : List EditResult)
  | failed (index : Nat) (reason : BatchReason) (results : List EditResult)
deriving DecidableEq, Repr

/-- What a service still has to ask of another block, or to tell it (R53). -/
inductive Task where
  /-- an action request on a line; `record` is the record of the act, if one is to be offered, with the
  kind the act has where the answer is APPLIED and the group is not TRIPPED (R27, R41) -/
  | request (line : Fin 16) (request : Request) (record : Option Report)
  /-- a record offered to the report queue (R165) -/
  | offer (record : Report)
  /-- an allocation left this FREE_COUNT (R23) -/
  | allocated (free : Nat)
  /-- the entry of this handle has made an act that counts as a boundary act (R35) -/
  | acted (handle : Handle)
  /-- the entry of this handle has left the agenda (R35) -/
  | gone (handle : Handle)
  /-- the number that the walk of a purge removed, for the group unit (R48, R96) -/
  | purged (group : Fin 4) (count : Nat)
  /-- the reset moment of an engine reset (R59) -/
  | resetMoment
  /-- the end of a batch apply (R153, R154) -/
  | endBatch (ending : BatchEnding)
  /-- the completion of the host's command (R175) -/
  | complete (code : ResultCode) (words : List Word)
deriving DecidableEq, Repr

/-- A service under way (R53): the claim granted, TIME and RESERVE as they stood at the grant (R53,
R22), the pending reaction record that left the FIFO at the grant (R57), the agenda as the service will
leave it, and what the service has still to ask or tell. The agenda's own work rests on nothing but the
agenda and the values taken at the grant, and no other block changes the agenda, so it is done at the
grant; other blocks read the agenda as the last completed service left it until the end (log 2). -/
structure Service where
  claim : Claim
  taken : Time
  reserve : Nat
  record : Option PendingReaction
  /-- the list, the free queue and the generations at the end of the service -/
  after : Agenda
  /-- in order, the next first -/
  todo : List Task
deriving DecidableEq, Repr

/-- The arbiter's state (R60). The expiry claim and the reaction claim are levels, computed from the
agenda list and the FIFO (R54, R57, log 14). -/
structure Arbiter where
  /-- none is IDLE, some is SERVING -/
  activity : Option Service
  purge : Vector Bool 4
  apply : Bool
  host : Bool
deriving DecidableEq, Repr

/-! ## The command port (chapter Commands) -/

/-- Which wait holds a batch command until the end of the service under way (R176). -/
inductive Held where
  /-- a BATCH_COMMIT with ENTRY, taken while another service than the batch apply runs (R148) -/
  | commitEntry
  /-- any batch command, taken while the batch apply service runs (R150) -/
  | duringApply
deriving DecidableEq, Repr

/-- The command port's state (chapter Commands, opening table; R177). -/
structure CommandPort where
  /-- the port state: true is WAITING (R172) -/
  waiting : Bool
  cmd : Word
  /-- P0..P7 -/
  params : Vector Word 8
  result : ResultCode
  /-- RES1..RES8, at 0..7 -/
  res : Vector Word 8
  held : Option Held
deriving DecidableEq, Repr

/-! ## The interrupt unit (chapter Register Window and Interrupt) -/

/-- The eleven flags (R196); `trip` holds TRIP0..TRIP3. -/
structure Flags where
  cmdDone : Bool
  batchEnd : Bool
  trip : Vector Bool 4
  capLost : Bool
  rptLost : Bool
  reactLost : Bool
  poolLow : Bool
  busReject : Bool
deriving DecidableEq, Repr

/-- Why a write was refused (R195). -/
inductive RejectReason where
  | unmapped | readOnly | cmdWaiting | wrongState | range | queueEmpty
deriving DecidableEq, Repr

/-- The record of a refused write (R195). -/
structure Rejection where
  reason : RejectReason
  address : BitVec 7
deriving DecidableEq, Repr

/-- The interrupt unit's state (chapter Register Window and Interrupt, opening table). -/
structure InterruptUnit where
  flags : Flags
  enable : Word
  /-- none is reason NONE, address 0 -/
  reject : Option Rejection
deriving DecidableEq, Repr

/-! ## Pins -/

/-- How many consecutive samples of a pin stood at the level an edge leaves, and how many after them
at the level it goes to, each stopping at 2 (R1 for TCLK, R89 for the trip pins). -/
structure EdgeSamples where
  before : Nat
  after : Nat
deriving DecidableEq, Repr

/-- The input pins, driven from outside (true is high), and the samples that decide when an edge of
TCLK or of a trip pin is seen (R1, R89). -/
structure Pins where
  trip : Vector Bool 2
  tclk : Bool
  inputs : Vector Bool 8
  tripSamples : Vector EdgeSamples 2
  tclkSamples : EdgeSamples
deriving DecidableEq, Repr

/-! ## The whole part -/

/-- The state of the SQ-1608, one field per block, the pins, and the model's queue of commands. -/
structure State where
  timebase : Timebase
  agenda : Agenda
  arbiter : Arbiter
  lines : LineUnit
  groups : Vector Group 4
  capture : CaptureUnit
  reactions : ReactionUnit
  batch : BatchUnit
  reports : ReportQueue
  port : CommandPort
  irq : InterruptUnit
  pins : Pins
  /-- D0..D15 as the last TIME_LO_READ drove them (R10, log 8) -/
  dataOut : Word
  /-- the commands that wait, first in first out: the model's own field -/
  pending : List Instr
deriving DecidableEq, Repr

/-! ## Device-reset values -/

/-- The timebase after device reset (R14). -/
def resetTimebase : Timebase where
  time := 0
  running := false
  source := .internal
  prescaleField := 0
  phase := 0
  writeHold := 0
  snapshot := 0

/-- The free queue after either reset: slots 0..255, ascending from the head (R19, R50). -/
def allSlots : List (BitVec 8) := (List.range Config.slotCount).map (BitVec.ofNat 8)

/-- The agenda after device reset (R50). -/
def resetAgenda : Agenda where
  list := []
  free := allSlots
  gens := Vector.replicate 256 0
  reserve := 0
  poolLow := 0

/-- The arbiter after device reset: IDLE, with no claim (R60). -/
def resetArbiter : Arbiter where
  activity := none
  purge := Vector.replicate 4 false
  apply := false
  host := false

/-- A line after device reset (R84). -/
def resetLine : Line where
  mode := .off
  polarity := .activeHigh
  safe := .inactive
  active := false

/-- A pair after device reset (R84). -/
def resetPair : Pair where
  interlock := false
  guardTicks := 0
  running := none
  deferral := none

/-- The line unit after device reset (R84). -/
def resetLines : LineUnit where
  lines := Vector.replicate 16 resetLine
  pairs := Vector.replicate 8 resetPair

/-- The empty cause set. -/
def noCauses : CauseSet where
  pin0 := false
  pin1 := false
  reaction := false
  host := false

/-- A group after device reset (R105). -/
def resetGroup : Group where
  state := .off
  use0 := .none
  use1 := .none
  policy := .hold
  causes := noCauses
  firstCause := none
  tripTime := 0
  purgePending := false
  lastPurgeCount := 0
  view := 0

/-- An input after device reset (R122). -/
def resetInput : Input where
  enable := false
  edge := .rise
  queued := false
  filter := 0
  settled := false
  candidate := false
  runCount := 0
  runStart := 0
  sampled := false

/-- The capture unit after device reset (R122). -/
def resetCapture : CaptureUnit where
  inputs := Vector.replicate 8 resetInput
  filterInt := 1
  samplePhase := 0
  queue := []
  seq := 0
  lost := 0
  threshold := 1

/-- A reaction row after device reset (R141). -/
def resetRow : Row where
  state := .off
  input := 0
  edge := .rise
  kind := .schedule
  oneShot := false
  holdoff := 0
  lastMatch := none
  template :=
    { line := 0, action := .active, delay := 0, width := 0, late := .fire, option := .none, tag := 0 }
  groupMask := 0

/-- The reaction unit after device reset (R141). -/
def resetReactions : ReactionUnit where
  rows := Vector.replicate 16 resetRow
  fifo := []
  lost := 0
  sel := 0

/-- The batch unit after device reset (R159). -/
def resetBatch : BatchUnit where
  state := .empty
  staging := []
  boundary := none
  results := []
  failing := 0
  reason := none
  sel := 0
  watch := none

/-- The report queue after device reset (R170). -/
def resetReports : ReportQueue where
  queue := []
  lost := 0
  threshold := 1

/-- The command port after device reset (R177). -/
def resetPort : CommandPort where
  waiting := false
  cmd := 0
  params := Vector.replicate 8 0
  result := .none
  res := Vector.replicate 8 0
  held := none

/-- Every flag clear (R196). -/
def noFlags : Flags where
  cmdDone := false
  batchEnd := false
  trip := Vector.replicate 4 false
  capLost := false
  rptLost := false
  reactLost := false
  poolLow := false
  busReject := false

/-- The interrupt unit after device reset (R195, R196, R198). -/
def resetIrq : InterruptUnit where
  flags := noFlags
  enable := 0
  reject := none

/-- No sample taken yet. -/
def noSamples : EdgeSamples where
  before := 0
  after := 0

/-- The pins of the reset state. Their levels come from outside: trip pins high, the others low
(DESIGN CHOICE, log 6; unsafe, no statement rests on them). -/
def resetPins : Pins where
  trip := Vector.replicate 2 true
  tclk := false
  inputs := Vector.replicate 8 false
  tripSamples := Vector.replicate 2 noSamples
  tclkSamples := noSamples

/-- The part right after device reset, with no command waiting. -/
def State.reset : State where
  timebase := resetTimebase
  agenda := resetAgenda
  arbiter := resetArbiter
  lines := resetLines
  groups := Vector.replicate 4 resetGroup
  capture := resetCapture
  reactions := resetReactions
  batch := resetBatch
  reports := resetReports
  port := resetPort
  irq := resetIrq
  pins := resetPins
  dataOut := 0
  pending := []

end Sys2Proof.Machine
end

