-- ==== Sys2Proof/Machine/Operands.lean ====
section
/-! DEFINITION. The encodings of chapter Register Window and Interrupt: time halves, handles, control
words, coded fields, and the registers at their word addresses (R194, R199 to R205). -/

namespace Sys2Proof.Machine

/-! ## Bits and halves -/

/-- Bit `n` of a word. -/
def bit (v : Word) (n : Nat) : Bool := v.getLsbD n

/-- Bits `n .. n + len - 1` of a word, as a number. -/
def field (v : Word) (n len : Nat) : Nat := v.toNat / 2 ^ n % 2 ^ len

/-- A word with one bit, set or clear, in place `n`. -/
def bitWord (b : Bool) (n : Nat) : Word := if b then 1 <<< n else 0

/-- A number in a field that begins at bit `n`. -/
def fieldWord (x n : Nat) : Word := BitVec.ofNat 16 (x * 2 ^ n)

/-- The low half of a 32-bit value (R200). -/
def loHalf (t : Time) : Word := t.setWidth 16

/-- The high half of a 32-bit value (R200). -/
def hiHalf (t : Time) : Word := (t >>> 16).setWidth 16

/-- The 32-bit value of two halves, low half first (R200). -/
def ofHalves (lo hi : Word) : Time := hi ++ lo

/-! ## Handles (R200) -/

/-- A handle in a word: slot in the low byte, generation in the high byte. -/
def handleWord (h : Handle) : Word := h.gen ++ h.slot

/-- The handle a word holds; every word is a well-formed handle. -/
def handleOfWord (v : Word) : Handle where
  slot := v.setWidth 8
  gen := (v >>> 8).setWidth 8

/-! ## The control word (R199) -/

/-- The action a code names; 5..7 name none. -/
def actionOfCode : Nat → Option Action
  | 0 => some .active
  | 1 => some .inactive
  | 2 => some .toggle
  | 3 => some .pulse
  | 4 => some .mark
  | _ => none

/-- The code of an action. -/
def actionCode : Action → Nat
  | .active => 0
  | .inactive => 1
  | .toggle => 2
  | .pulse => 3
  | .mark => 4

/-- The report option a code names; 3 names none. -/
def optionOfCode : Nat → Option ReportOption
  | 0 => some .none
  | 1 => some .final
  | 2 => some .every
  | _ => none

/-- The code of a report option. -/
def optionCode : ReportOption → Nat
  | .none => 0
  | .final => 1
  | .every => 2

/-- The line field of a control word, bits 3:0. -/
def controlLine (v : Word) : Fin 16 := Fin.ofNat 16 (field v 0 4)

/-- The action field of a control word, bits 6:4. -/
def controlAction (v : Word) : Option Action := actionOfCode (field v 4 3)

/-- The late policy field of a control word, bit 7. -/
def controlLate (v : Word) : LatePolicy := if bit v 7 then .drop else .fire

/-- The report option field of a control word, bits 9:8. -/
def controlOption (v : Word) : Option ReportOption := optionOfCode (field v 8 2)

/-- The code of a late policy. -/
def lateCode : LatePolicy → Nat
  | .fire => 0
  | .drop => 1

/-- A control word of its fields (R199). -/
def controlWord (line : Nat) (action : Action) (late : LatePolicy) (option : ReportOption) : Word :=
  fieldWord line 0 ||| fieldWord (actionCode action) 4 ||| fieldWord (lateCode late) 7
    ||| fieldWord (optionCode option) 8

/-- The action of a job. -/
def jobAction : Job → Action
  | .drive _ .active => .active
  | .drive _ .inactive => .inactive
  | .drive _ .toggle => .toggle
  | .pulse _ _ _ => .pulse
  | .mark => .mark

/-- The line of a job; a MARK has none (R15). -/
def jobLine : Job → Option (Fin 16)
  | .drive l _ => some l
  | .pulse l _ _ => some l
  | .mark => none

/-- The job an insertion's line, action and width make: the line ignored for MARK, the width for all
but PULSE, a PULSE beginning with its ASSERT (R16, R17). -/
def jobOf (line : Fin 16) (action : Action) (width : Nat) : Job :=
  match action with
  | .active => .drive line .active
  | .inactive => .drive line .inactive
  | .toggle => .drive line .toggle
  | .pulse => .pulse line width .assertAct
  | .mark => .mark

/-! ## The insertion fields (R16, R178) -/

/-- The repetition a period and a count name: 0 is absent; a count without a period, or a period
beyond the horizon, names none (R16). -/
def repetitionOf (period count : Nat) : Option Repetition :=
  if Config.horizon < period then none
  else if period = 0 then (if count = 0 then some .oneShot else none)
  else if count = 0 then some (.endless period)
  else some (.counted period count)

/-- Whether a PULSE of this width may have this period: a width of 1 or more, and less than the period
where there is one (R16). -/
def pulseWidthOk (width period : Nat) : Bool := 1 ≤ width && (period = 0 || width < period)

/-- The insertion that P0..P7 hold, or none where they break a condition of R16 (R178). -/
def insertionOf (p : Vector Word 8) : Option Insertion :=
  let period := (ofHalves p[2] p[3]).toNat
  match controlAction p[7], controlOption p[7], repetitionOf period p[5].toNat with
  | some action, some option, some repetition =>
    if action = .pulse ∧ pulseWidthOk p[4].toNat period = false then none
    else some
      { due := ofHalves p[0] p[1]
        job := jobOf (controlLine p[7]) action p[4].toNat
        repetition := repetition
        late := controlLate p[7]
        option := option
        tag := p[6] }
  | _, _, _ => none

/-- The line request a LINE_SET names in P7: PULSE, MARK and codes that name no action are refused
(R186). -/
def lineSetRequest (v : Word) : Option Request :=
  match controlAction v with
  | some .active => some .active
  | some .inactive => some .inactive
  | some .toggle => some .toggle
  | some .pulse => none
  | some .mark => none
  | none => none

/-! ## Codes of results and records -/

/-- The origin's five-bit code (R201). -/
def originCode : Origin → Nat
  | .host => 0
  | .batch => 1
  | .reaction r => 16 + r.val

/-- The result codes 0..15 (chapter Commands). -/
def resultCode : ResultCode → Nat
  | .none => 0
  | .ok => 1
  | .badCommand => 2
  | .badParam => 3
  | .noSlot => 4
  | .reserve => 5
  | .late => 6
  | .stale => 7
  | .notPending => 8
  | .wrongState => 9
  | .stillAsserted => 10
  | .purgePending => 11
  | .batchState => 12
  | .batchFull => 13
  | .deferred => 14
  | .blocked => 15

/-- The disposition codes (R200). -/
def dispositionCode : Disposition → Nat
  | .pending => 1
  | .done => 2

/-- The report kinds 1..9 (R204). -/
def reportKindCode : ReportKind → Nat
  | .fired => 1
  | .late => 2
  | .deferred => 3
  | .blocked => 4
  | .suppressed => 5
  | .dropped => 6
  | .cancelled => 7
  | .purged => 8
  | .noSlot => 9

/-- The reject reasons (R195). -/
def rejectCode : RejectReason → Nat
  | .unmapped => 1
  | .readOnly => 2
  | .cmdWaiting => 3
  | .wrongState => 4
  | .range => 5
  | .queueEmpty => 6

/-- The batch state codes (R197). -/
def batchStateCode : BatchState → Nat
  | .empty => 0
  | .opened => 1
  | .armed => 2
  | .applied => 3
  | .failed => 4
  | .abandoned => 5

/-- The batch reasons (R203). -/
def batchReasonCode : Option BatchReason → Nat
  | none => 0
  | some .stale => 1
  | some .notPending => 2
  | some .wrongState => 3
  | some .late => 4
  | some .noSlot => 5
  | some .reserve => 6
  | some .boundaryGone => 7

/-- The result code a batch reason is recorded as in the failing edit's outcome (R153); the boundary's
going is no edit's outcome (R149). -/
def reasonResult : BatchReason → ResultCode
  | .stale => .stale
  | .notPending => .notPending
  | .wrongState => .wrongState
  | .late => .late
  | .noSlot => .noSlot
  | .reserve => .reserve
  | .boundaryGone => .none

/-- The group state codes (R203). -/
def groupStateCode : GroupState → Nat
  | .off => 0
  | .run => 1
  | .tripped => 2

/-- The first-cause codes (R203). -/
def causeCode : Option Cause → Nat
  | none => 0
  | some .pin0 => 1
  | some .pin1 => 2
  | some .reaction => 3
  | some .host => 4

/-- The row state codes (R205). -/
def rowStateCode : RowState → Nat
  | .off => 0
  | .armed => 1
  | .spent => 2

/-! ## Coded configuration fields (R202, R205) -/

/-- The edge select a code names; 3 names none. -/
def edgeSelectOfCode : Nat → Option EdgeSelect
  | 0 => some .rise
  | 1 => some .fall
  | 2 => some .both
  | _ => none

/-- The code of an edge select. -/
def edgeSelectCode : EdgeSelect → Nat
  | .rise => 0
  | .fall => 1
  | .both => 2

/-- The row kind a code names; 3 names none. -/
def rowKindOfCode : Nat → Option RowKind
  | 0 => some .schedule
  | 1 => some .trip
  | 2 => some .cancelTag
  | _ => none

/-- The code of a row kind. -/
def rowKindCode : RowKind → Nat
  | .schedule => 0
  | .trip => 1
  | .cancelTag => 2

/-- The safe level a code names; 3 names none. -/
def safeLevelOfCode : Nat → Option SafeLevel
  | 0 => some .inactive
  | 1 => some .active
  | 2 => some .float
  | _ => none

/-- The code of a safe level. -/
def safeLevelCode : SafeLevel → Nat
  | .inactive => 0
  | .active => 1
  | .float => 2

/-- The trip use a code names; 3 names none. -/
def tripUseOfCode : Nat → Option TripUse
  | 0 => some .none
  | 1 => some .level
  | 2 => some .edge
  | _ => none

/-- The code of a trip use. -/
def tripUseCode : TripUse → Nat
  | .none => 0
  | .level => 1
  | .edge => 2

/-- The code of a tick source. -/
def sourceCode : TickSource → Nat
  | .internal => 0
  | .external => 1

/-- The TB_CTRL word of a run state, a source and a PRESCALE field (R202). -/
def tbCtrlWord (running : Bool) (source : TickSource) (prescale : BitVec 8) : Word :=
  prescale.setWidth 16 ||| fieldWord (sourceCode source) 8 ||| bitWord running 15

/-! ## The registers (R194) -/

/-- A register of the window, or a word that has no register. -/
inductive Register where
  | partId | tbCtrl | timeLo | timeHi | flags | irqEn | status | reject | cmd | result
  | param (k : Fin 8)
  | res (k : Fin 8)
  | freeCount | reserve | poolLow | pendingCount
  | lineCfg (n : Fin 16)
  | pairCfg (p : Fin 8)
  | groupCfg (g : Fin 4)
  | groupStat (g : Fin 4)
  | inCfg (n : Fin 8)
  | filterInt | capTh | capStat
  | capHead (k : Fin 3)
  | capPop | rptTh | rptStat
  | rptHead (k : Fin 8)
  | rptPop | rowSel
  | row (k : Fin 7)
  | reactStat | batchStat | batchSel | batchRes | batchHandle | pinStat | intended | deferred
  | inLevels
  | unmapped (a : BitVec 7)
deriving DecidableEq, Repr

/-- The word address of a register (R194). -/
def registerAddress : Register → BitVec 7
  | .partId => 0x00
  | .tbCtrl => 0x01
  | .timeLo => 0x02
  | .timeHi => 0x03
  | .flags => 0x04
  | .irqEn => 0x05
  | .status => 0x06
  | .reject => 0x07
  | .cmd => 0x08
  | .result => 0x09
  | .param k => BitVec.ofNat 7 (0x0A + k.val)
  | .res k => BitVec.ofNat 7 (0x12 + k.val)
  | .freeCount => 0x1A
  | .reserve => 0x1B
  | .poolLow => 0x1C
  | .pendingCount => 0x1D
  | .lineCfg n => BitVec.ofNat 7 (0x20 + n.val)
  | .pairCfg p => BitVec.ofNat 7 (0x30 + p.val)
  | .groupCfg g => BitVec.ofNat 7 (0x38 + g.val)
  | .groupStat g => BitVec.ofNat 7 (0x3C + g.val)
  | .inCfg n => BitVec.ofNat 7 (0x40 + n.val)
  | .filterInt => 0x48
  | .capTh => 0x49
  | .capStat => 0x4A
  | .capHead k => BitVec.ofNat 7 (0x4B + k.val)
  | .capPop => 0x4E
  | .rptTh => 0x50
  | .rptStat => 0x51
  | .rptHead k => BitVec.ofNat 7 (0x52 + k.val)
  | .rptPop => 0x5A
  | .rowSel => 0x60
  | .row k => BitVec.ofNat 7 (0x61 + k.val)
  | .reactStat => 0x68
  | .batchStat => 0x70
  | .batchSel => 0x71
  | .batchRes => 0x72
  | .batchHandle => 0x73
  | .pinStat => 0x74
  | .intended => 0x75
  | .deferred => 0x76
  | .inLevels => 0x77
  | .unmapped a => a

/-- The register at a word address, or the word without one (R192, R194). -/
def registerAt (a : BitVec 7) : Register :=
  let n := a.toNat
  if n = 0x00 then .partId
  else if n = 0x01 then .tbCtrl
  else if n = 0x02 then .timeLo
  else if n = 0x03 then .timeHi
  else if n = 0x04 then .flags
  else if n = 0x05 then .irqEn
  else if n = 0x06 then .status
  else if n = 0x07 then .reject
  else if n = 0x08 then .cmd
  else if n = 0x09 then .result
  else if n ≤ 0x11 then .param (Fin.ofNat 8 (n - 0x0A))
  else if n ≤ 0x19 then .res (Fin.ofNat 8 (n - 0x12))
  else if n = 0x1A then .freeCount
  else if n = 0x1B then .reserve
  else if n = 0x1C then .poolLow
  else if n = 0x1D then .pendingCount
  else if n ≤ 0x1F then .unmapped a
  else if n ≤ 0x2F then .lineCfg (Fin.ofNat 16 (n - 0x20))
  else if n ≤ 0x37 then .pairCfg (Fin.ofNat 8 (n - 0x30))
  else if n ≤ 0x3B then .groupCfg (Fin.ofNat 4 (n - 0x38))
  else if n ≤ 0x3F then .groupStat (Fin.ofNat 4 (n - 0x3C))
  else if n ≤ 0x47 then .inCfg (Fin.ofNat 8 (n - 0x40))
  else if n = 0x48 then .filterInt
  else if n = 0x49 then .capTh
  else if n = 0x4A then .capStat
  else if n ≤ 0x4D then .capHead (Fin.ofNat 3 (n - 0x4B))
  else if n = 0x4E then .capPop
  else if n = 0x4F then .unmapped a
  else if n = 0x50 then .rptTh
  else if n = 0x51 then .rptStat
  else if n ≤ 0x59 then .rptHead (Fin.ofNat 8 (n - 0x52))
  else if n = 0x5A then .rptPop
  else if n ≤ 0x5F then .unmapped a
  else if n = 0x60 then .rowSel
  else if n ≤ 0x67 then .row (Fin.ofNat 7 (n - 0x61))
  else if n = 0x68 then .reactStat
  else if n ≤ 0x6F then .unmapped a
  else if n = 0x70 then .batchStat
  else if n = 0x71 then .batchSel
  else if n = 0x72 then .batchRes
  else if n = 0x73 then .batchHandle
  else if n = 0x74 then .pinStat
  else if n = 0x75 then .intended
  else if n = 0x76 then .deferred
  else if n = 0x77 then .inLevels
  else .unmapped a

end Sys2Proof.Machine
end

