-- ==== Sys2Proof/Machine/Flags.lean ====
section
/-! DEFINITION. The interrupt unit (R195 to R198): setting and clearing flags, recording a refused
write, the STATUS levels and IRQ#. -/

namespace Sys2Proof.Machine

/-- The state with other flags. -/
def withFlags (f : Flags) (s : State) : State := { s with irq := { s.irq with flags := f } }

/-- CMD_DONE set (R175). -/
def setCmdDone (s : State) : State := withFlags { s.irq.flags with cmdDone := true } s

/-- BATCH_END set (R158). -/
def setBatchEnd (s : State) : State := withFlags { s.irq.flags with batchEnd := true } s

/-- TRIPg set (R104). -/
def setTripFlag (g : Fin 4) (s : State) : State :=
  withFlags { s.irq.flags with trip := s.irq.flags.trip.set g true } s

/-- CAP_LOST set (R117). -/
def setCapLost (s : State) : State := withFlags { s.irq.flags with capLost := true } s

/-- RPT_LOST set (R166). -/
def setRptLost (s : State) : State := withFlags { s.irq.flags with rptLost := true } s

/-- REACT_LOST set (R136). -/
def setReactLost (s : State) : State := withFlags { s.irq.flags with reactLost := true } s

/-- POOL_LOW set (R23). -/
def setPoolLow (s : State) : State := withFlags { s.irq.flags with poolLow := true } s

/-- A refused write to register `r`: it replaces REJECT, sets BUS_REJECT and changes nothing else
(R195). -/
def refuse (r : Register) (reason : RejectReason) (s : State) : State :=
  { s with irq :=
    { s.irq with
      flags := { s.irq.flags with busReject := true }
      reject := some { reason := reason, address := registerAddress r } } }

/-- The FLAGS word (R196). -/
def flagsWord (f : Flags) : Word :=
  bitWord f.cmdDone 0 ||| bitWord f.batchEnd 1 ||| bitWord f.trip[0] 2 ||| bitWord f.trip[1] 3
    ||| bitWord f.trip[2] 4 ||| bitWord f.trip[3] 5 ||| bitWord f.capLost 6 ||| bitWord f.rptLost 7
    ||| bitWord f.reactLost 8 ||| bitWord f.poolLow 9 ||| bitWord f.busReject 10

/-- The flags after a write to FLAGS: each bit written 1 clears its flag, a 0 leaves it (R196). -/
def clearFlags (v : Word) (f : Flags) : Flags where
  cmdDone := f.cmdDone && !bit v 0
  batchEnd := f.batchEnd && !bit v 1
  trip := Vector.ofFn fun g : Fin 4 => f.trip[g] && !bit v (2 + g.val)
  capLost := f.capLost && !bit v 6
  rptLost := f.rptLost && !bit v 7
  reactLost := f.reactLost && !bit v 8
  poolLow := f.poolLow && !bit v 9
  busReject := f.busReject && !bit v 10

/-- The flags after the clearing of an engine reset: every flag but TRIP0..TRIP3 (R196). -/
def engineClearedFlags (f : Flags) : Flags := { noFlags with trip := f.trip }

/-- CAP_READY: the capture queue holds at least CAP_TH records (R120). -/
def capReady (s : State) : Bool := s.capture.threshold ≤ s.capture.queue.length

/-- RPT_READY: the report queue holds at least RPT_TH records (R169). -/
def rptReady (s : State) : Bool := s.reports.threshold ≤ s.reports.queue.length

/-- The STATUS word (R197). -/
def statusWord (s : State) : Word :=
  bitWord (capReady s) 0 ||| bitWord (rptReady s) 1 ||| bitWord s.port.waiting 2
    ||| bitWord s.timebase.running 3 ||| fieldWord (batchStateCode s.batch.state) 4

/-- The REJECT word (R195). -/
def rejectWord (r : Option Rejection) : Word :=
  match r with
  | none => 0
  | some x => x.address.setWidth 16 ||| fieldWord (rejectCode x.reason) 8

/-- IRQ# is driven low while an enabled flag is set or an enabled level is true (R198). -/
def irqLow (s : State) : Bool :=
  (flagsWord s.irq.flags &&& s.irq.enable) != 0
    || (capReady s && bit s.irq.enable 12) || (rptReady s && bit s.irq.enable 13)

end Sys2Proof.Machine
end

