-- ==== Sys2Proof/Machine/Ops.lean ====
section
/-! DEFINITION. The shared operations of the part: judging times, action requests and guards, the slot
pool and the agenda list, report offers, trip requests, and the completion of a command. -/

namespace Sys2Proof.Machine

/-- What a command answers. -/
abbrev Result := Host.Outcome State Fault Refusal

/-! ## Judging times (R11 to R13) -/

/-- The lead of a time: (t - now) modulo 2^32 (R11). -/
def lead (t now : Time) : Nat := (t - now).toNat

/-- A time is late when its lead exceeds the horizon (R11). -/
def isLate (t now : Time) : Bool := Config.horizon < lead t now

/-- A time is due when its lead is 0 (R11). -/
def isDue (t now : Time) : Bool := lead t now = 0

/-- Time `a` is later than time `b` (R12). -/
def laterThan (a b : Time) : Bool := 1 ≤ (a - b).toNat && (a - b).toNat ≤ Config.horizon

/-- The slip of an act: (taken - due) modulo 2^32 (R13). -/
def slip (taken due : Time) : Nat := (taken - due).toNat

/-- A duration in ticks as a timebase difference. -/
def ticks (d : Nat) : Time := BitVec.ofNat 32 d

/-! ## Record updates by block -/

/-- The state with another timebase. -/
def withTimebase (t : Timebase) (s : State) : State := { s with timebase := t }

/-- The state with another agenda. -/
def withAgenda (a : Agenda) (s : State) : State := { s with agenda := a }

/-- The state with another arbiter. -/
def withArbiter (a : Arbiter) (s : State) : State := { s with arbiter := a }

/-- The state with another line unit. -/
def withLines (l : LineUnit) (s : State) : State := { s with lines := l }

/-- The state with another record of one group. -/
def withGroup (g : Fin 4) (x : Group) (s : State) : State := { s with groups := s.groups.set g x }

/-- The state with another capture unit. -/
def withCapture (c : CaptureUnit) (s : State) : State := { s with capture := c }

/-- The state with another reaction unit. -/
def withReactions (r : ReactionUnit) (s : State) : State := { s with reactions := r }

/-- The state with another batch unit. -/
def withBatch (b : BatchUnit) (s : State) : State := { s with batch := b }

/-- The state with another report queue. -/
def withReports (r : ReportQueue) (s : State) : State := { s with reports := r }

/-- The state with another command port. -/
def withPort (p : CommandPort) (s : State) : State := { s with port := p }

/-- The state with other pins. -/
def withPins (p : Pins) (s : State) : State := { s with pins := p }

/-! ## Lines, pairs and groups (chapter Output Lines and Interlocked Pairs) -/

/-- The pair of a line: lines 2p and 2p + 1. -/
def pairOf (l : Fin 16) : Fin 8 := ⟨l.val / 2, by omega⟩

/-- Which of its pair's two lines a line is. -/
def sideOf (l : Fin 16) : Fin 2 := ⟨l.val % 2, by omega⟩

/-- The line on this side of this pair. -/
def lineOn (p : Fin 8) (side : Fin 2) : Fin 16 := ⟨2 * p.val + side.val, by omega⟩

/-- The other side of a pair. -/
def otherSide (side : Fin 2) : Fin 2 := ⟨1 - side.val, by omega⟩

/-- The partner of a line. -/
def partnerOf (l : Fin 16) : Fin 16 := lineOn (pairOf l) (otherSide (sideOf l))

/-- The group of a line: lines 4g..4g + 3. -/
def groupOf (l : Fin 16) : Fin 4 := ⟨l.val / 4, by omega⟩

/-- The group of a pair: pairs 2g and 2g + 1. -/
def groupOfPair (p : Fin 8) : Fin 4 := ⟨p.val / 2, by omega⟩

/-- The state with another intended level of one line. -/
def setActive (l : Fin 16) (active : Bool) (s : State) : State :=
  withLines
    { s.lines with lines := s.lines.lines.set l { s.lines.lines[l] with active := active } } s

/-- The state with another record of one pair. -/
def setPair (p : Fin 8) (x : Pair) (s : State) : State :=
  withLines { s.lines with pairs := s.lines.pairs.set p x } s

/-- Whether the pair's deferral, if any, is of the line on this side. -/
def deferredOn (p : Pair) (side : Fin 2) : Bool := p.deferral.map PairWait.side == some side

/-- An activation of a line on an interlocked pair, by the first case of R72 that holds. -/
def activate (l : Fin 16) (s : State) : Answer × State :=
  let p := s.lines.pairs[pairOf l]
  if s.lines.lines[l].active then (.applied, s)
  else if deferredOn p (sideOf l) then (.deferred, s)
  else if s.lines.lines[partnerOf l].active || deferredOn p (otherSide (sideOf l)) then (.blocked, s)
  else
    match p.running with
    | some w =>
      if w.side = otherSide (sideOf l) then
        let d : PairWait := { side := sideOf l, endTime := w.endTime }
        (.deferred, setPair (pairOf l) { p with deferral := some d } s)
      else (.applied, setPair (pairOf l) { p with running := none } (setActive l true s))
    | none => (.applied, setActive l true s)

/-- A deactivation of a line on an interlocked pair, with the first effect of R73 that applies. The
end time of a guard is now plus the guard, now being TIME at the request (R73, log 25). -/
def deactivate (l : Fin 16) (s : State) : State :=
  let p := s.lines.pairs[pairOf l]
  if deferredOn p (sideOf l) then setPair (pairOf l) { p with deferral := none } s
  else if s.lines.lines[l].active then
    if p.guardTicks = 0 then setActive l false s
    else
      let w : PairWait := { side := sideOf l, endTime := s.timebase.time + ticks p.guardTicks }
      setPair (pairOf l) { p with running := some w } (setActive l false s)
  else s

/-- The line unit's answer to an action request, and the state it leaves (R71 to R74). -/
def request (l : Fin 16) (r : Request) (s : State) : Answer × State :=
  let p := s.lines.pairs[pairOf l]
  let x := s.lines.lines[l]
  if p.interlock then
    match r with
    | .active => activate l s
    | .inactive => (.applied, deactivate l s)
    | .toggle =>
      if x.active || deferredOn p (sideOf l) then (.applied, deactivate l s) else activate l s
  else
    match r with
    | .active => (.applied, setActive l true s)
    | .inactive => (.applied, setActive l false s)
    | .toggle => (.applied, setActive l (!x.active) s)

/-- The guard end of a pair (R79): a deferred line becomes ACTIVE, and the pair returns to IDLE with
no deferral. -/
def endGuard (p : Fin 8) (s : State) : State :=
  let x := s.lines.pairs[p]
  match x.deferral with
  | some d => setPair p { x with running := none, deferral := none } (setActive (lineOn p d.side) true s)
  | none => setPair p { x with running := none } s

/-- The guard end of a pair whose end time TIME has reached (R79); nothing for any other pair. -/
def guardEndIfReached (p : Fin 8) (s : State) : State :=
  match s.lines.pairs[p].running with
  | some w => if w.endTime = s.timebase.time then endGuard p s else s
  | none => s

/-- The guard ends of every pair whose end time TIME has reached. -/
def endReachedGuards (s : State) : State :=
  (List.finRange 8).foldl (fun t p => guardEndIfReached p t) s

/-- A wait whose end time moves with TIME (R9, R81). -/
def shiftWait (d : Time) (w : PairWait) : PairWait := { w with endTime := w.endTime + d }

/-- A pair whose guard and deferral keep their remaining ticks when TIME moves by `d` (R81). -/
def shiftPair (d : Time) (p : Pair) : Pair :=
  { p with running := p.running.map (shiftWait d), deferral := p.deferral.map (shiftWait d) }

/-- A pair without its deferral; its guard runs on (R82). -/
def dropDeferral (p : Fin 8) (s : State) : State :=
  setPair p { s.lines.pairs[p] with deferral := none } s

/-! ## Trip requests (R90 to R93) -/

/-- A cause set with one cause more. -/
def addCause (c : Cause) (x : CauseSet) : CauseSet :=
  match c with
  | .pin0 => { x with pin0 := true }
  | .pin1 => { x with pin1 := true }
  | .reaction => { x with reaction := true }
  | .host => { x with host := true }

/-- The first pair of a group. -/
def firstPair (g : Fin 4) : Fin 8 := ⟨2 * g.val, by omega⟩

/-- The second pair of a group. -/
def secondPair (g : Fin 4) : Fin 8 := ⟨2 * g.val + 1, by omega⟩

/-- The purge claim of a group raised (R55). -/
def raisePurge (g : Fin 4) (s : State) : State :=
  withArbiter { s.arbiter with purge := s.arbiter.purge.set g true } s

/-- The record of a group at its trip entry (R91). -/
def trippedGroup (x : Group) (c : Cause) (now : Time) : Group :=
  { x with
    state := .tripped
    causes := addCause c noCauses
    firstCause := some c
    tripTime := now
    purgePending := x.purgePending || x.policy = .purge }

/-- A trip entry (R91). -/
def tripEntry (g : Fin 4) (c : Cause) (s : State) : State :=
  let x := s.groups[g]
  let s := withGroup g (trippedGroup x c s.timebase.time) s
  let s := setTripFlag g (dropDeferral (secondPair g) (dropDeferral (firstPair g) s))
  match x.policy with
  | .purge => raisePurge g s
  | .hold => s

/-- A trip request, answered by the group's state (R91, R92, R93). -/
def tripRequest (g : Fin 4) (c : Cause) (s : State) : State :=
  let x := s.groups[g]
  match x.state with
  | .run => tripEntry g c s
  | .tripped => withGroup g { x with causes := addCause c x.causes } s
  | .off => s

/-- A trip request with one cause for each group in a mask, bit g naming group g (R100, R138). -/
def tripMask (mask : Nat) (c : Cause) (s : State) : State :=
  (List.finRange 4).foldl (fun t g => if mask.testBit g.val then tripRequest g c t else t) s

/-- A group's use of a trip pin (R87). -/
def useOf (x : Group) (pin : Fin 2) : TripUse := if pin = 0 then x.use0 else x.use1

/-- The cause a trip pin's fall carries (R90). -/
def pinCause (pin : Fin 2) : Cause := if pin = 0 then .pin0 else .pin1

/-- A fall of a trip pin: one trip request for each group whose use of it is LEVEL or EDGE (R90). -/
def pinTrip (pin : Fin 2) (s : State) : State :=
  (List.finRange 4).foldl
    (fun t g =>
      match useOf t.groups[g] pin with
      | .none => t
      | .level => tripRequest g (pinCause pin) t
      | .edge => tripRequest g (pinCause pin) t) s

/-- Whether a trip pin is asserted: low (R89). -/
def pinAsserted (pin : Fin 2) (s : State) : Bool := !s.pins.trip[pin]

/-- Whether a LEVEL source of a group is asserted (R98). -/
def levelAsserted (g : Fin 4) (s : State) : Bool :=
  (s.groups[g].use0 = .level && pinAsserted 0 s) || (s.groups[g].use1 = .level && pinAsserted 1 s)

/-! ## Reports (R33, R165, R166) -/

/-- A record offered to the report queue: it joins the tail, or is discarded and counted when the queue
is full (R165, R166). -/
def offerReport (r : Report) (s : State) : State :=
  if s.reports.queue.length < Config.reportCapacity then
    withReports { s.reports with queue := s.reports.queue ++ [r] } s
  else
    setRptLost (withReports { s.reports with lost := min Config.lostMax (s.reports.lost + 1) } s)

/-- Whether an entry's option offers a record with this final mark (R33, R164). -/
def optionOffers (option : ReportOption) (final : Bool) : Bool :=
  match option with
  | .none => false
  | .final => final
  | .every => true

/-- The record of an act or an ending of an entry (R33). -/
def entryReport (e : Entry) (kind : ReportKind) (final : Bool) (due taken : Time) : Report where
  kind := kind
  final := final
  origin := e.origin
  handle := some e.handle
  tag := e.tag
  line := jobLine e.job
  due := due
  taken := taken
  missed := e.missed

/-- An entry after a record of it was offered, or not: an offer returns its missed count to 0, kept or
discarded (R33). -/
def afterReport (e : Entry) (final : Bool) : Entry :=
  if optionOffers e.option final then { e with missed := 0 } else e

/-- The record of an act or an ending, where the entry's option asks for it (R33). -/
def recordOf (e : Entry) (kind : ReportKind) (final : Bool) (due taken : Time) : Option Report :=
  if optionOffers e.option final then some (entryReport e kind final due taken) else none

/-! ## The slot pool and the agenda list (R18 to R26) -/

/-- FREE_COUNT (R18). -/
def freeCount (s : State) : Nat := s.agenda.free.length

/-- PENDING_COUNT (R18). -/
def pendingCount (s : State) : Nat := s.agenda.list.length

/-- The generation of a slot. -/
def genOf (s : State) (slot : BitVec 8) : BitVec 8 := s.agenda.gens[slot.toFin]

/-- The allocation of the oldest free slot, with its generation advanced: the new handle and the agenda
it leaves (R19, R20); none with no slot free. -/
def allocate (a : Agenda) : Option (Handle × Agenda) :=
  match a.free with
  | [] => none
  | slot :: rest =>
    let gen := a.gens[slot.toFin] + 1
    some ({ slot := slot, gen := gen }, { a with free := rest, gens := a.gens.set slot.toFin gen })

/-- A slot joins the tail of the free queue (R19, R34). -/
def freeSlot (slot : BitVec 8) (a : Agenda) : Agenda := { a with free := a.free ++ [slot] }

/-- The list with an entry directly behind the last entry that is not later than it (R24). -/
def placeIn (e : Entry) : List Entry → List Entry
  | [] => [e]
  | x :: xs =>
    if (x :: xs).any (fun y => !laterThan y.due e.due) then x :: placeIn e xs else e :: x :: xs

/-- The agenda with an entry placed (R24). -/
def place (e : Entry) (a : Agenda) : Agenda := { a with list := placeIn e a.list }

/-- The agenda without the entry in a slot. -/
def takeOut (slot : BitVec 8) (a : Agenda) : Agenda :=
  { a with list := a.list.eraseP (fun e => e.handle.slot == slot) }

/-- What a handle names (R21). -/
inductive Resolution where
  | stale | notPending
  | pending (e : Entry)
deriving DecidableEq, Repr

/-- A handle resolved against the slot it names (R21). -/
def resolveIn (h : Handle) (a : Agenda) : Resolution :=
  if a.gens[h.slot.toFin] ≠ h.gen then .stale
  else
    match a.list.find? (fun e => e.handle.slot == h.slot) with
    | some e => .pending e
    | none => .notPending

/-- A handle resolved against the agenda as the last completed service left it (R21, R53). -/
def resolve (h : Handle) (s : State) : Resolution := resolveIn h s.agenda

/-- Whether a handle names a pending entry. -/
def isPending (h : Handle) (a : Agenda) : Bool :=
  match resolveIn h a with
  | .pending _ => true
  | .stale => false
  | .notPending => false

/-- The expiry claim: the list is not empty and its head is due or late (R26, R54). -/
def expiryClaim (s : State) : Bool :=
  match s.agenda.list with
  | [] => false
  | e :: _ => isDue e.due s.timebase.time || isLate e.due s.timebase.time

/-! ## The boundary watch (R35, R149) -/

/-- The notice of a boundary act: where the entry is watched, the watch ends and the batch apply claim is
raised (R35, R149). -/
def boundaryAct (h : Handle) (s : State) : State :=
  if s.batch.watch = some h then
    withArbiter { s.arbiter with apply := true } (withBatch { s.batch with watch := none } s)
  else s

/-- The departure of an entry: where it is watched, the batch becomes ABANDONED with BATCH_END (R149). -/
def boundaryGone (h : Handle) (s : State) : State :=
  if s.batch.watch = some h then
    setBatchEnd (withBatch
      { s.batch with
        watch := none, state := .abandoned, reason := some .boundaryGone, failing := 0 } s)
  else s

/-! ## Completion of a command (R175) -/

/-- The result words with RES1.. written from a list. -/
def writeRes (words : List Word) (res : Vector Word 8) : Vector Word 8 :=
  Vector.ofFn fun k : Fin 8 => (words[k.val]?).getD res[k]

/-- A command completes: result words, RESULT, CMD_DONE, READY (R175). -/
def complete (code : ResultCode) (words : List Word) (s : State) : State :=
  setCmdDone (withPort
    { s.port with
      waiting := false, result := code, res := writeRes words s.port.res, held := none } s)

end Sys2Proof.Machine
end

