-- ==== Sys2Proof/Machine/Reactions.lean ====
section
/-! DEFINITION. The reaction unit (chapter Reactions): matching captures against the table, the pending
reaction FIFO, and the row window's writes. -/

namespace Sys2Proof.Machine

/-! ## Matching (R132 to R136) -/

/-- Whether an edge select admits an edge (R107, R132). -/
def admits (sel : EdgeSelect) (e : Edge) : Bool :=
  match sel with
  | .rise => e = .rise
  | .fall => e = .fall
  | .both => true

/-- Whether a row is in holdoff for a capture with this time (R133). -/
def inHoldoff (r : Row) (time : Time) : Bool :=
  match r.lastMatch with
  | none => false
  | some m => (time - m).toNat < r.holdoff.toNat

/-- Whether a row matches a capture (R132). -/
def rowMatches (r : Row) (input : Fin 8) (e : Edge) (time : Time) : Bool :=
  r.state = .armed && r.input = input && admits r.edge e && !inHoldoff r time

/-- A record offered to the pending reaction FIFO: it joins the tail, or is discarded and counted
when the FIFO is full (R135, R136). -/
def offerReaction (r : PendingReaction) (s : State) : State :=
  if s.reactions.fifo.length < Config.fifoCapacity then
    withReactions { s.reactions with fifo := s.reactions.fifo ++ [r] } s
  else
    setReactLost
      (withReactions { s.reactions with lost := min Config.lostMax (s.reactions.lost + 1) } s)

/-- The state with another row. -/
def setRow (k : Fin 16) (r : Row) (s : State) : State :=
  withReactions { s.reactions with rows := s.reactions.rows.set k r } s

/-- A row after a match at this capture time: the last-match time, and SPENT for a one-shot row
(R134). -/
def matchedRow (r : Row) (time : Time) : Row :=
  { r with lastMatch := some time, state := if r.oneShot then .spent else r.state }

/-- The pending reaction record of a match: R135 has all its fields present and says for each kind which one
its service reads; the other is a copy of the same row's too (DESIGN CHOICE, log 28). -/
def pendingRecord (k : Fin 16) (kind : PendingKind) (r : Row) (time : Time) : PendingReaction where
  row := k
  kind := kind
  time := time
  template := r.template
  tag := r.template.tag

/-- What a matching row does, by its kind (R134, R138). -/
def answerMatch (k : Fin 16) (r : Row) (time : Time) (s : State) : State :=
  match r.kind with
  | .trip => tripMask r.groupMask.toNat .reaction s
  | .schedule => offerReaction (pendingRecord k .schedule r time) s
  | .cancelTag => offerReaction (pendingRecord k .cancelTag r time) s

/-- One row compared with a capture (R132, R134). -/
def compareRow (input : Fin 8) (e : Edge) (time : Time) (s : State) (k : Fin 16) : State :=
  let r := s.reactions.rows[k]
  if rowMatches r input e time then answerMatch k r time (setRow k (matchedRow r time) s) else s

/-- A capture handed to the reaction unit: compared with rows 0 to 15 in ascending order (R121,
R132). -/
def handOff (input : Fin 8) (e : Edge) (time : Time) (s : State) : State :=
  (List.finRange 16).foldl (compareRow input e time) s

/-! ## The row window (R126 to R130) -/

/-- The selected row. -/
def selectedRow (s : State) : Row := s.reactions.rows[s.reactions.sel]

/-- The state with the selected row replaced. -/
def setSelectedRow (r : Row) (s : State) : State := setRow s.reactions.sel r s

/-- Whether an ARM of this row is refused: a SCHEDULE PULSE of width 0, or a TRIP with an empty mask
(R127). -/
def armRefused (r : Row) : Bool :=
  (r.kind = .schedule && r.template.action = .pulse && r.template.width = 0)
    || (r.kind = .trip && r.groupMask = 0)

/-- The control ARM on the selected row (R126, R127). -/
def controlArm (s : State) : State :=
  let r := selectedRow s
  match r.state with
  | .off =>
    if armRefused r then refuse (.row 0) .range s
    else setSelectedRow { r with state := .armed, lastMatch := none } s
  | .armed => refuse (.row 0) .wrongState s
  | .spent => refuse (.row 0) .wrongState s

/-- The control DISARM on the selected row (R126). In OFF it changes nothing, and a row that is OFF has
no last-match time. -/
def controlDisarm (s : State) : State :=
  let r := selectedRow s
  match r.state with
  | .off => s
  | .armed => setSelectedRow { r with state := .off, lastMatch := none } s
  | .spent => setSelectedRow { r with state := .off, lastMatch := none } s

/-- The control REARM on the selected row (R126). -/
def controlRearm (s : State) : State :=
  let r := selectedRow s
  match r.state with
  | .off => refuse (.row 0) .wrongState s
  | .armed => refuse (.row 0) .wrongState s
  | .spent => setSelectedRow { r with state := .armed } s

/-- The row with the fields of a ROW word written, or none where a field holds a code that names none
of its values, or a delay's high half above 255 (R129, R130, R205). -/
def rowWithField (k : Fin 7) (v : Word) (r : Row) : Option Row :=
  let t := r.template
  match k with
  | 0 =>
    match edgeSelectOfCode (field v 5 2), rowKindOfCode (field v 7 2) with
    | some e, some kind =>
      some
        { r with input := Fin.ofNat 8 (field v 2 3), edge := e, kind := kind, oneShot := bit v 9 }
    | _, _ => none
  | 1 => some { r with holdoff := v }
  | 2 =>
    match controlAction v, controlOption v with
    | some a, some o =>
      some
        { r with template :=
          { t with line := controlLine v, action := a, late := controlLate v, option := o } }
    | _, _ => none
  | 3 => some { r with template := { t with delay := t.delay.extractLsb' 16 8 ++ v } }
  | 4 =>
    if 255 < field v 0 12 then none
    else
      some
        { r with
          template := { t with delay := BitVec.ofNat 8 (field v 0 12) ++ t.delay.extractLsb' 0 16 }
          groupMask := BitVec.ofNat 4 (field v 12 4) }
  | 5 => some { r with template := { t with width := v } }
  | 6 => some { r with template := { t with tag := v } }

/-- A field write of the row window (R130). -/
def writeRowField (k : Fin 7) (v : Word) (s : State) : State :=
  let r := selectedRow s
  match r.state with
  | .off =>
    match rowWithField k v r with
    | some r' => setSelectedRow r' s
    | none => refuse (.row k) .range s
  | .armed => refuse (.row k) .wrongState s
  | .spent => refuse (.row k) .wrongState s

/-- A write of ROW0..ROW6: a ROW0 write with a control code is a control write, which acts on the state
alone; every other is a field write (R129). -/
def writeRow (k : Fin 7) (v : Word) (s : State) : State :=
  if k = 0 then
    match field v 0 2 with
    | 1 => controlArm s
    | 2 => controlDisarm s
    | 3 => controlRearm s
    | _ => writeRowField 0 v s
  else writeRowField k v s

/-- A write of ROW_SEL (R128). -/
def writeRowSel (v : Word) (s : State) : State :=
  if h : v.toNat < 16 then withReactions { s.reactions with sel := ⟨v.toNat, h⟩ } s
  else refuse .rowSel .range s

/-- A write of REACT_STAT (R137). -/
def writeReactStat (s : State) : State := withReactions { s.reactions with lost := 0 } s

/-! ## The engine reset of the reaction unit (R142) -/

/-- A row after engine reset: SPENT becomes ARMED, the last-match time is forgotten. -/
def engineResetRow (r : Row) : Row :=
  { r with
    state := (match r.state with | .off => .off | .armed => .armed | .spent => .armed)
    lastMatch := none }

/-- The reaction unit after engine reset (R142). -/
def engineResetReactions (u : ReactionUnit) : ReactionUnit :=
  { u with rows := mapAll engineResetRow u.rows, fifo := [], lost := 0 }

/-! ## The commands -/

/-- ARM (R126, R127). -/
def execArm (s : State) : Result := .next (controlArm s)

/-- DISARM (R126). -/
def execDisarm (s : State) : Result := .next (controlDisarm s)

/-- REARM (R126). -/
def execRearm (s : State) : Result := .next (controlRearm s)

/-- ROW_FIELD_WRITE (R129, R130). -/
def execRowFieldWrite (k : Fin 7) (v : Word) (s : State) : Result := .next (writeRow k v s)

/-- REACT_STAT_WRITE (R137). -/
def execReactStatWrite (s : State) : Result := .next (writeReactStat s)

end Sys2Proof.Machine
end

