-- ==== Sys2Proof/Machine/Inputs.lean ====
section
/-! DEFINITION. The capture unit (chapter Input Lines and the Capture Queue): samples, filter runs,
accepted changes, the capture queue and its registers. -/

namespace Sys2Proof.Machine

/-! ## Accepted changes and the queue (R112, R116, R117) -/

/-- The state with another record of one input. -/
def setInput (n : Fin 8) (i : Input) (s : State) : State :=
  withCapture { s.capture with inputs := s.capture.inputs.set n i } s

/-- A capture offered to the capture queue: it takes the next sequence number, and joins the tail or
is discarded and counted when the queue is full (R116, R117). -/
def offerCapture (n : Fin 8) (e : Edge) (time : Time) (filtered : Bool) (s : State) : State :=
  let c := s.capture
  let r : Capture := { seq := c.seq, line := n, edge := e, time := time, filtered := filtered }
  if c.queue.length < Config.captureCapacity then
    withCapture { c with seq := c.seq + 1, queue := c.queue ++ [r] } s
  else
    setCapLost (withCapture { c with seq := c.seq + 1, lost := min Config.lostMax (c.lost + 1) } s)

/-- The edge of a change to this level (R112). -/
def edgeTo (level : Bool) : Edge := if level then .rise else .fall

/-- An accepted change of an input, with its change time (R112, R121). -/
def acceptChange (n : Fin 8) (level : Bool) (time : Time) (s : State) : State :=
  let i := s.capture.inputs[n]
  let t := setInput n { i with settled := level } s
  if admits i.edge (edgeTo level) then
    let u := handOff n (edgeTo level) time t
    if i.queued then offerCapture n (edgeTo level) time (i.filter != 0) u else u
  else t

/-! ## Samples (R110, R111) -/

/-- An input pin brought to a level from outside. -/
def setInputPin (n : Fin 8) (level : Bool) (s : State) : State :=
  withPins { s.pins with inputs := s.pins.inputs.set n level } s

/-- One sample of an input at a core-clock period that is no sample moment for it (R110): a disabled
input's settled level follows it, an unfiltered input's change is accepted with TIME as its time, a
filtered input does not use it. -/
def sampleInput (n : Fin 8) (level : Bool) (s : State) : State :=
  let i := s.capture.inputs[n]
  if !i.enable then setInput n { i with sampled := level, settled := level } s
  else if i.filter = 0 then
    if level = i.settled then setInput n { i with sampled := level } s
    else
      acceptChange n level s.timebase.time
        (setInput n { i with sampled := level, candidate := level, runCount := 0 } s)
  else setInput n { i with sampled := level } s

/-- Whether an input is filtered: enabled, with a filter of 2..8 samples. -/
def isFiltered (i : Input) : Bool := i.enable && i.filter != 0

/-- The run of a filtered input after a sample moment (R111). An equal sample leaves the run start time, the
first one after a run was discarded (count 0) too: the model's choice (log 32). -/
def runAfter (i : Input) (level : Bool) (now : Time) : Input :=
  if level = i.candidate then { i with sampled := level, runCount := min i.filter (i.runCount + 1) }
  else { i with sampled := level, candidate := level, runCount := 1, runStart := now }

/-- A sample moment of one filtered input: its run advances or restarts, and a completed run that
differs from the settled level is accepted with the run's start time (R111). -/
def filterStep (n : Fin 8) (level : Bool) (s : State) : State :=
  let i := runAfter s.capture.inputs[n] level s.timebase.time
  let t := setInput n i s
  if i.filter ≤ i.runCount ∧ i.candidate ≠ i.settled then acceptChange n i.candidate i.runStart t
  else t

/-- A sample moment for the inputs that are filtered, in ascending order; bit n of `levels` is the
sampled level of input n (R109, R111, R113). That it leaves each filtered input's pin at that level, and
takes no sample of the other inputs, is the model's choice (log 20). -/
def filterMoment (levels : BitVec 8) (s : State) : State :=
  (List.finRange 8).foldl
    (fun t n =>
      if isFiltered t.capture.inputs[n] then
        filterStep n (levels.getLsbD n.val) (setInputPin n (levels.getLsbD n.val) t)
      else t)
    (withCapture { s.capture with samplePhase := 0 } s)

/-! ## Registers (R107 to R109, R118 to R120) -/

/-- The filter a field names: 0 or 2..8 (R107). -/
def filterOk (n : Nat) : Bool := n = 0 || (2 ≤ n && n ≤ Config.filterMax)

/-- An input after a taken IN_CFGn write with these values: each change the write makes has its effect
on the runtime state (R108). -/
def configuredInput (i : Input) (enable : Bool) (e : EdgeSelect) (queued : Bool) (filter : Nat) : Input :=
  let c := { i with enable := enable, edge := e, queued := queued, filter := filter }
  if !i.enable && enable then { c with settled := i.sampled, candidate := i.sampled, runCount := 0 }
  else if i.enable && !enable then { c with candidate := i.settled, runCount := 0 }
  else if i.enable && enable && filter != i.filter then { c with candidate := i.settled, runCount := 0 }
  else c

/-- A write of IN_CFGn (R107, R202). -/
def writeInCfg (n : Fin 8) (v : Word) (s : State) : State :=
  match edgeSelectOfCode (field v 1 2) with
  | some e =>
    if filterOk (field v 4 4) then
      setInput n (configuredInput s.capture.inputs[n] (bit v 0) e (bit v 3) (field v 4 4)) s
    else refuse (.inCfg n) .range s
  | none => refuse (.inCfg n) .range s

/-- A write of FILTER_INT (R109). -/
def writeFilterInt (v : Word) (s : State) : State :=
  if 1 ≤ v.toNat ∧ v.toNat ≤ Config.filterIntMax then
    withCapture { s.capture with filterInt := v.toNat, samplePhase := 0 } s
  else refuse .filterInt .range s

/-- A write of CAP_TH (R120). -/
def writeCapTh (v : Word) (s : State) : State :=
  if 1 ≤ v.toNat ∧ v.toNat ≤ Config.captureCapacity then
    withCapture { s.capture with threshold := v.toNat } s
  else refuse .capTh .range s

/-- A write of CAP_STAT (R119). -/
def writeCapStat (s : State) : State := withCapture { s.capture with lost := 0 } s

/-- A write of CAP_POP (R118). -/
def popCapture (s : State) : State :=
  match s.capture.queue with
  | [] => refuse .capPop .queueEmpty s
  | _ :: rest => withCapture { s.capture with queue := rest } s

/-- The capture unit after engine reset (R123). -/
def engineResetCapture (c : CaptureUnit) : CaptureUnit := { c with queue := [], seq := 0, lost := 0 }

/-! ## The commands -/

/-- INPUT_CHANGE (R110): a sample of this input at this level, which becomes the pin's. The row is the case
of an enabled unfiltered input; on an input of another kind it is that input's sample by R110, which is the
model's choice (log 20). -/
def execInputChange (n : Fin 8) (level : Bool) (s : State) : Result :=
  .next (sampleInput n level (setInputPin n level s))

/-- SETTLED_LEVEL_FOLLOWS_PIN (R110): a sample of this input at this level, which becomes the pin's. The row
is the case of a disabled input; on an input of another kind it is that input's sample by R110, which is the
model's choice (log 20). -/
def execSettledLevelFollowsPin (n : Fin 8) (level : Bool) (s : State) : Result :=
  .next (sampleInput n level (setInputPin n level s))

/-- FILTER_SAMPLE (R109, R111). -/
def execFilterSample (levels : BitVec 8) (s : State) : Result := .next (filterMoment levels s)

/-- IN_CFG_WRITE (R107, R108). -/
def execInCfgWrite (n : Fin 8) (v : Word) (s : State) : Result := .next (writeInCfg n v s)

/-- FILTER_INT_WRITE (R109). -/
def execFilterIntWrite (v : Word) (s : State) : Result := .next (writeFilterInt v s)

/-- CAP_TH_WRITE (R120). -/
def execCapThWrite (v : Word) (s : State) : Result := .next (writeCapTh v s)

/-- CAP_STAT_WRITE (R119). -/
def execCapStatWrite (s : State) : Result := .next (writeCapStat s)

/-- CAP_POP (R118). -/
def execCapPop (s : State) : Result := .next (popCapture s)

end Sys2Proof.Machine
end

