-- ==== Sys2Proof/Machine/Agenda.lean ====
section
/-! DEFINITION. What the agenda does to its entries (chapter The Agenda): acts and what follows them,
insertion, cancellation, retiming, query, purge. Each is a function of the agenda and of `taken`, TIME at
the grant of the service (R53); it answers the agenda it leaves and what it asks of other blocks. The
services that call these are in Machine/Services.lean. -/

namespace Sys2Proof.Machine

/-- A piece of a service's work: the agenda it leaves, and what it asks of other blocks or tells them, in
order (R53). -/
abbrev Work := Agenda × List Task

/-! ## Acts (R27 to R34) -/

/-- The report kind of an act done on time or late: by its slip (R27, R28). -/
def kindBySlip (due taken : Time) : ReportKind := if slip taken due = 0 then .fired else .late

/-- The report kind of an act sent to the line unit: from the answer and the state of the line's group,
`applied` being the kind by its slip (R27). -/
def actKind (a : Answer) (g : GroupState) (applied : ReportKind) : ReportKind :=
  match a with
  | .deferred => .deferred
  | .blocked => .blocked
  | .applied =>
    match g with
    | .tripped => .suppressed
    | .off => applied
    | .run => applied

/-- A job as its next repetition begins: a PULSE's phase returns to ASSERT (R31). -/
def rearmedJob : Job → Job
  | .drive l r => .drive l r
  | .pulse l w _ => .pulse l w .assertAct
  | .mark => .mark

/-- A PULSE waiting for its RETURN act. -/
def inReturn : Job → Bool
  | .drive _ _ => false
  | .pulse _ _ .assertAct => false
  | .pulse _ _ .returnAct => true
  | .mark => false

/-- An entry at a repetition due at `due` (R31). -/
def atRepetition (e : Entry) (due : Time) (r : Repetition) : Entry :=
  { e with due := due, anchor := due, job := rearmedJob e.job, repetition := r }

/-- A missed count increased by `k`, stopping at 65535 (R32). -/
def addMissed (e : Entry) (k : Nat) : Entry := { e with missed := min Config.missedMax (e.missed + k) }

/-- What follows a completed repetition (R31, R32). -/
inductive Following where
  /-- the entry is placed again, for its next repetition -/
  | again (e : Entry)
  /-- the entry ends by the act -/
  | over (e : Entry)
  /-- the entry ends as DROPPED, with its late next due -/
  | dropped (e : Entry)
deriving DecidableEq, Repr

/-- How many repetitions are skipped when the next due is late: its lateness divided by the period,
rounded up (R32). -/
def skipCount (next taken : Time) (period : Nat) : Nat := (slip taken next + period - 1) / period

/-- The next repetition of a periodic entry, with `left` repetitions remaining (none for an endless
entry), by R31 and R32. -/
def nextRepetition (e : Entry) (taken : Time) (period : Nat) (left : Option Nat) : Following :=
  let next := e.anchor + ticks period
  let rep : Option Nat → Repetition := fun c =>
    match c with
    | none => .endless period
    | some n => .counted period n
  if isLate next taken then
    match e.late with
    | .drop => .dropped { e with due := next }
    | .fire =>
      let k := skipCount next taken period
      let due := e.anchor + ticks ((k + 1) * period)
      match left with
      | none => .again (atRepetition (addMissed e k) due (rep none))
      | some c =>
        if k < c then .again (atRepetition (addMissed e k) due (rep (some (c - k))))
        else .over (addMissed e c)
  else .again (atRepetition e next (rep left))

/-- What follows the act that completed a repetition (R31). -/
def following (e : Entry) (taken : Time) : Following :=
  match e.repetition with
  | .oneShot => .over e
  | .endless period => nextRepetition e taken period none
  | .counted period count =>
    if count - 1 = 0 then .over e else nextRepetition e taken period (some (count - 1))

/-- The departure notice of an entry that ends; none after an act that counts as its boundary act (R35). -/
def departure (h : Handle) (counted : Bool) : List Task := if counted then [] else [.gone h]

/-- An act that completed a repetition is settled: the entry is placed again or ends, and its records
are offered (R31 to R34). `ask` is the act itself with the record it is to have, `due` the due of the
act; `counted` says that the service has made an act that counts as a boundary act (R35). -/
def settle (e : Entry) (ask : Option Report → List Task) (counted : Bool) (due taken : Time) (a : Agenda) :
    Work :=
  match following e taken with
  | .again x =>
    (place (afterReport x false) a, ask (recordOf x (kindBySlip due taken) false due taken))
  | .over x =>
    (freeSlot x.handle.slot a,
      ask (recordOf x (kindBySlip due taken) true due taken) ++ departure x.handle counted)
  | .dropped x =>
    (freeSlot x.handle.slot a,
      ask (recordOf x (kindBySlip due taken) false due taken) ++
        ((recordOf (afterReport x false) .dropped true x.due taken).map Task.offer).toList ++
        departure x.handle counted)

/-- An action request as the act of an entry. -/
def askLine (l : Fin 16) (r : Request) (record : Option Report) : List Task := [.request l r record]

/-- An act that asks nothing of the line unit (R28). -/
def askNothing (record : Option Report) : List Task := (record.map Task.offer).toList

/-- A RETURN act of a PULSE, which completes the repetition (R30). -/
def returnAct (l : Fin 16) (counted : Bool) (e : Entry) (taken : Time) (a : Agenda) : Work :=
  settle e (askLine l .inactive) counted e.due taken a

/-- A PULSE after its ASSERT: phase RETURN, due the anchor plus the width (R29). -/
def movedToReturn (e : Entry) (l : Fin 16) (width : Nat) : Entry :=
  { e with due := e.anchor + ticks width, job := .pulse l width .returnAct }

/-- An ASSERT act of a PULSE: an ACTIVE request, the move to RETURN, and the RETURN at once where its
due is late (R29). Where the RETURN skips repetitions, the record of the ASSERT is filled before the skips, and
the skips are in the missed count of the record that follows it: R33 does not say which of the two carries them
(DESIGN CHOICE, log 29). -/
def assertAct (l : Fin 16) (width : Nat) (e : Entry) (taken : Time) (a : Agenda) : Work :=
  let m := movedToReturn e l width
  let asked := askLine l .active (recordOf m (kindBySlip e.due taken) false e.due taken)
  let m := afterReport m false
  if isLate m.due taken then
    let w := returnAct l true m taken a
    (w.1, asked ++ w.2)
  else (place m a, asked)

/-- Work that makes an act which counts as a boundary act: the notice comes when all else of it is
complete (R35). -/
def countedAct (h : Handle) (w : Work) : Work := (w.1, w.2 ++ [.acted h])

/-- The act an entry's action and phase call for, and all that follows it in the service (R27 to R35).
The entry is out of the list when it acts. -/
def act (e : Entry) (taken : Time) (a : Agenda) : Work :=
  match e.job with
  | .drive l r => countedAct e.handle (settle e (askLine l r) true e.due taken a)
  | .mark => countedAct e.handle (settle e askNothing true e.due taken a)
  | .pulse l w .assertAct => countedAct e.handle (assertAct l w e taken a)
  | .pulse l _ .returnAct => returnAct l false e taken a

/-! ## Insertion (R17, R37 to R40) -/

/-- The entry an insertion builds under its new handle (R17). -/
def buildEntry (i : Insertion) (origin : Origin) (h : Handle) : Entry where
  handle := h
  due := i.due
  anchor := i.due
  job := i.job
  repetition := i.repetition
  late := i.late
  option := i.option
  tag := i.tag
  origin := origin
  missed := 0

/-- An entry with a due within the horizon is placed; one with a late due acts at once (R38, R39,
R45). -/
def placeOrAct (e : Entry) (taken : Time) (a : Agenda) : Work :=
  if isLate e.due taken then act e taken a else (place e a, [])

/-- Steps 3 and 4 of an insertion: allocate, build, place or act at once (R37); none with no slot
free. -/
def insertEntry (i : Insertion) (origin : Origin) (taken : Time) (a : Agenda) : Option (Handle × Work) :=
  (allocate a).map fun (h, b) =>
    let w := placeOrAct (buildEntry i origin h) taken b
    (h, w.1, .allocated b.free.length :: w.2)

/-- The slot check of R22 for `n` insertions, with RESERVE as it stood at the grant. -/
def slotCheck (n reserve free : Nat) : Option BatchReason :=
  if free < n then some .noSlot else if free - n < reserve then some .reserve else none

/-- The due is late and the policy is DROP: a host INSERT and a batch INSERT edit fail with LATE (R37,
R151). -/
def lateUnderDrop (due : Time) (late : LatePolicy) (taken : Time) : Bool :=
  isLate due taken && late = .drop

/-- The NO_SLOT record of a reaction that found no free slot (R40). -/
def noSlotReport (i : Insertion) (row : Fin 16) (taken : Time) : Report where
  kind := .noSlot
  final := true
  origin := .reaction row
  handle := none
  tag := i.tag
  line := jobLine i.job
  due := i.due
  taken := taken
  missed := 0

/-- The insertion of a SCHEDULE reaction, in the order of its column in R37, with the outcomes of
R40. -/
def insertReaction (i : Insertion) (row : Fin 16) (taken : Time) (a : Agenda) : Work :=
  match allocate a with
  | none => (a, [.offer (noSlotReport i row taken)])
  | some (h, b) =>
    let e := buildEntry i (.reaction row) h
    let w : Work :=
      if lateUnderDrop e.due e.late taken then
        (freeSlot h.slot b, ((recordOf e .dropped true e.due taken).map Task.offer).toList ++ [.gone h])
      else placeOrAct e taken b
    (w.1, .allocated b.free.length :: w.2)

/-! ## Removal (R41 to R43, R48) -/

/-- The pulse closed: an INACTIVE request for a PULSE in RETURN, nothing for any other entry (R41). -/
def closePulse (j : Job) : List Task :=
  match j with
  | .pulse l _ .returnAct => [.request l .inactive none]
  | .pulse _ _ .assertAct => []
  | .drive _ _ => []
  | .mark => []

/-- What the removal of an entry by cancellation or purge asks and tells: pulse closed, record offered,
notice given (R42, R48). -/
def removalTasks (kind : ReportKind) (taken : Time) (e : Entry) : List Task :=
  closePulse e.job ++ ((recordOf e kind true e.due taken).map Task.offer).toList ++ [.gone e.handle]

/-- The cancellation of a pending entry (R42). -/
def cancelEntry (e : Entry) (taken : Time) (a : Agenda) : Work :=
  (freeSlot e.handle.slot (takeOut e.handle.slot a), removalTasks .cancelled taken e)

/-- The entries that a walk of the list removes leave it, head first, each as R42 or R48 gives; with
the number removed (R43, R48). -/
def removeWhere (p : Entry → Bool) (kind : ReportKind) (taken : Time) (a : Agenda) : Nat × Work :=
  let gone := a.list.filter p
  (gone.length,
    { a with
      list := a.list.filter (fun e => !p e)
      free := a.free ++ gone.map (fun e => e.handle.slot) },
    gone.flatMap (removalTasks kind taken))

/-- The removal of every entry of a tag (R43). -/
def cancelTagged (tag : Word) (taken : Time) (a : Agenda) : Nat × Work :=
  removeWhere (fun e => e.tag == tag) .cancelled taken a

/-- Whether an entry's line is one of a group's (R48). -/
def inGroup (g : Fin 4) (e : Entry) : Bool :=
  match jobLine e.job with
  | some l => groupOf l == g
  | none => false

/-- The purge of a group, with the count handed to the group unit at the end of the walk (R48, R96). -/
def purgeGroup (g : Fin 4) (taken : Time) (a : Agenda) : Work :=
  let (n, w) := removeWhere (inGroup g) .purged taken a
  (w.1, w.2 ++ [.purged g n])

/-! ## Retiming (R44, R45) -/

/-- The retiming of a pending entry, or the reason it is refused for (R44, R45). -/
def retimeEntry (e : Entry) (due : Time) (taken : Time) (a : Agenda) : Except BatchReason Work :=
  if inReturn e.job then .error .wrongState
  else if lateUnderDrop due e.late taken then .error .late
  else .ok (placeOrAct { e with due := due, anchor := due } taken (takeOut e.handle.slot a))

/-! ## Query (R46, R183) -/

/-- Whether a repetition has a period. -/
def periodOf : Repetition → Nat
  | .oneShot => 0
  | .endless p => p
  | .counted p _ => p

/-- The count of a repetition, 0 when absent. -/
def countOf : Repetition → Nat
  | .oneShot => 0
  | .endless _ => 0
  | .counted _ c => c

/-- The width of a job, 0 when absent. -/
def widthOf : Job → Nat
  | .drive _ _ => 0
  | .pulse _ w _ => w
  | .mark => 0

/-- Whether a period is present. -/
def hasPeriod : Repetition → Bool
  | .oneShot => false
  | .endless _ => true
  | .counted _ _ => true

/-- Whether a count is present. -/
def hasCount : Repetition → Bool
  | .oneShot => false
  | .endless _ => false
  | .counted _ _ => true

/-- RES4 of QUERY part 0 (R201). -/
def queryControl (e : Entry) : Word :=
  controlWord (((jobLine e.job).map Fin.val).getD 0) (jobAction e.job) e.late e.option
    ||| bitWord (inReturn e.job) 10 ||| bitWord (hasPeriod e.repetition) 11
    ||| bitWord (hasCount e.repetition) 12

/-- The eight result words of a part of an entry (R183). -/
def queryWords (e : Entry) (part : Nat) : List Word :=
  if part = 0 then
    [handleWord e.handle, loHalf e.due, hiHalf e.due, queryControl e,
      BitVec.ofNat 16 (widthOf e.job), BitVec.ofNat 16 (countOf e.repetition), e.tag,
      BitVec.ofNat 16 e.missed]
  else
    [handleWord e.handle, loHalf e.anchor, hiHalf e.anchor, fieldWord (originCode e.origin) 0,
      loHalf (ticks (periodOf e.repetition)), hiHalf (ticks (periodOf e.repetition)), 0, 0]

end Sys2Proof.Machine
end

