-- ==== Sys2Proof/Machine/Batch.lean ====
section
/-! DEFINITION. The batch unit (chapter Batches): staging, commit, discard, and the work of the apply
service. -/

namespace Sys2Proof.Machine

/-! ## Staging, commit and discard (R145 to R148, R156) -/

/-- The batch with nothing staged, ended or watched; BATCH_SEL is kept (R145, R156, R160). -/
def clearedBatch (b : BatchUnit) : BatchUnit :=
  { b with
    state := .empty, staging := [], boundary := none, results := [], failing := 0, reason := none,
    watch := none }

/-- The batch with one edit more at the tail of the staging. -/
def stagedBatch (e : Edit) (b : BatchUnit) : BatchUnit :=
  { b with state := .opened, staging := b.staging ++ [e] }

/-- The batch unit's answer to a staging command (R145). -/
def stage (e : Edit) (s : State) : ResultCode × State :=
  let b := s.batch
  match b.state with
  | .empty => (.ok, withBatch (stagedBatch e (clearedBatch b)) s)
  | .opened =>
    if b.staging.length < Config.stagingCapacity then (.ok, withBatch (stagedBatch e b) s)
    else (.batchFull, s)
  | .armed => (.batchState, s)
  | .applied => (.ok, withBatch (stagedBatch e (clearedBatch b)) s)
  | .failed => (.ok, withBatch (stagedBatch e (clearedBatch b)) s)
  | .abandoned => (.ok, withBatch (stagedBatch e (clearedBatch b)) s)

/-- The batch unit's answer to a commit with NOW: the apply claim is raised (R147). -/
def commitNow (s : State) : ResultCode × State :=
  match s.batch.state with
  | .opened =>
    (.ok, withArbiter { s.arbiter with apply := true }
      (withBatch { s.batch with state := .armed, boundary := some .now } s))
  | .empty => (.batchState, s)
  | .armed => (.batchState, s)
  | .applied => (.batchState, s)
  | .failed => (.batchState, s)
  | .abandoned => (.batchState, s)

/-- The batch unit's answer to a commit with ENTRY: the handle is resolved, and the agenda begins to
watch the entry (R147, R148). -/
def commitEntry (h : Handle) (s : State) : ResultCode × State :=
  match s.batch.state with
  | .opened =>
    match resolve h s with
    | .stale => (.stale, s)
    | .notPending => (.notPending, s)
    | .pending _ =>
      (.ok, withBatch
        { s.batch with state := .armed, boundary := some (.entry h), watch := some h } s)
  | .empty => (.batchState, s)
  | .armed => (.batchState, s)
  | .applied => (.batchState, s)
  | .failed => (.batchState, s)
  | .abandoned => (.batchState, s)

/-- The batch unit's answer to a discard: an unapplied batch is cleared, and a waiting apply claim is
withdrawn (R156). -/
def discard (s : State) : ResultCode × State :=
  match s.batch.state with
  | .empty => (.ok, s)
  | .opened => (.ok, withBatch (clearedBatch s.batch) s)
  | .armed =>
    (.ok, withArbiter { s.arbiter with apply := false } (withBatch (clearedBatch s.batch) s))
  | .applied => (.batchState, s)
  | .failed => (.batchState, s)
  | .abandoned => (.batchState, s)

/-! ## The apply (R150 to R155) -/

/-- Whether an edit is an insertion. -/
def isInsertEdit : Edit → Bool
  | .insert _ => true
  | .cancel _ => false
  | .retime _ _ => false

/-- One edit judged and made against the agenda the earlier edits left: the handle of its result and its
work, or the reason it fails for (R151, R154). `check` is what the slot check answers for the first
INSERT edit, none once it has passed (R152). -/
def makeEdit (taken : Time) (check : Option BatchReason) (e : Edit) (a : Agenda) :
    Except BatchReason (Handle × Work) :=
  match e with
  | .insert i =>
    if lateUnderDrop i.due i.late taken then .error .late
    else
      match check with
      | some r => .error r
      | none =>
        match insertEntry i .batch taken a with
        | some x => .ok x
        | none => .error .noSlot
  | .cancel h =>
    match resolveIn h a with
    | .stale => .error .stale
    | .notPending => .error .notPending
    | .pending x => .ok (h, cancelEntry x taken a)
  | .retime h due =>
    match resolveIn h a with
    | .stale => .error .stale
    | .notPending => .error .notPending
    | .pending x => (retimeEntry x due taken a).map fun w => (h, w)

/-- The edits in index order from index `k`, each judged and made against the agenda the earlier ones
left: the handles of the results and the work of them all, or the index and reason of the first that
fails (R151 to R154, log 12). -/
def makeEdits (taken : Time) (check : Option BatchReason) :
    List Edit → Nat → Agenda → Except (Nat × BatchReason) (List Handle × Work)
  | [], _, a => .ok ([], a, [])
  | e :: es, k, a =>
    match makeEdit taken check e a with
    | .error r => .error (k, r)
    | .ok (h, w) =>
      match makeEdits taken (if isInsertEdit e then none else check) es (k + 1) w.1 with
      | .error x => .error x
      | .ok (hs, v) => .ok (h :: hs, v.1, w.2 ++ v.2)

/-- The disposition of a handle: PENDING while its entry is in the agenda, DONE after (R38, R39). -/
def dispositionOf (h : Handle) (a : Agenda) : Disposition := if isPending h a then .pending else .done

/-- The result of an applied edit, the agenda being that at the end of the apply (R155). -/
def appliedResult (a : Agenda) (e : Edit) (h : Handle) : EditResult :=
  match e with
  | .insert _ => { outcome := .ok, disposition := some (dispositionOf h a), handle := some h }
  | .cancel _ => { outcome := .ok, disposition := none, handle := some h }
  | .retime _ _ => { outcome := .ok, disposition := some (dispositionOf h a), handle := some h }

/-- A result that says nothing: outcome NONE, handle 0 (R155). -/
def noResult : EditResult where
  outcome := .none
  disposition := none
  handle := none

/-- The results of a failed batch: the failing edit's reason, NONE for every other edit (R153, R155). -/
def failedResults (n k : Nat) (r : BatchReason) : List EditResult :=
  (List.range n).map fun i => if i = k then { noResult with outcome := reasonResult r } else noResult

/-- The number of INSERT edits of a staging (R152). -/
def insertCount (l : List Edit) : Nat := (l.filter isInsertEdit).length

/-- The work of the apply service: every edit made and the batch APPLIED, or none and the batch FAILED
(R150 to R155). -/
def applyBatch (edits : List Edit) (reserve : Nat) (taken : Time) (a : Agenda) : Work :=
  let check := slotCheck (insertCount edits) reserve a.free.length
  match makeEdits taken check edits 0 a with
  | .error (k, r) => (a, [.endBatch (.failed k r (failedResults edits.length k r))])
  | .ok (hs, w) => (w.1, w.2 ++ [.endBatch (.applied (List.zipWith (appliedResult w.1) edits hs))])

/-- The batch unit at the end of the apply service (R153, R154, R155). -/
def endedBatch (e : BatchEnding) (b : BatchUnit) : BatchUnit :=
  match e with
  | .applied results => { b with state := .applied, failing := 0, reason := none, results := results }
  | .failed index reason results =>
    { b with state := .failed, failing := index, reason := some reason, results := results }

/-- The end of the apply service: APPLIED or FAILED, and BATCH_END (R153, R154, R158). -/
def endBatch (e : BatchEnding) (s : State) : State := setBatchEnd (withBatch (endedBatch e s.batch) s)

end Sys2Proof.Machine
end

