-- ==== Sys2Proof/Machine/Port.lean ====
section
/-! DEFINITION. The command port (chapter Commands): the acceptance of a command, its parameter checks,
and the commands of the line unit, the group unit and the batch unit, which are answered without the
arbiter. -/

namespace Sys2Proof.Machine

/-! ## Acceptance (R171 to R174) -/

/-- A CMD write: refused while the port is WAITING; else CMD takes the value, RESULT becomes NONE, and
the command is judged (R173, R174). -/
def writeCmd (v : Word) (judge : State → State) (s : State) : State :=
  if s.port.waiting then refuse .cmd .cmdWaiting s
  else judge (withPort { s.port with cmd := v, result := .none } s)

/-- A write of P0..P7 (R171). -/
def writeParam (k : Fin 8) (v : Word) (s : State) : State :=
  if s.port.waiting then refuse (.param k) .cmdWaiting s
  else withPort { s.port with params := s.port.params.set k v } s

/-- An agenda command is handed over: the host claim is raised and the port becomes WAITING (R58,
R173). -/
def raiseHost (s : State) : State :=
  withArbiter { s.arbiter with host := true } (withPort { s.port with waiting := true } s)

/-- A command whose owner has answered completes with the answer (R175, R176). -/
def completeWith (x : ResultCode × State) : State := complete x.1 [] x.2

/-- A command that fails its parameter checks completes at once with BAD_PARAM (R173). -/
def badParam (s : State) : State := complete .badParam [] s

/-! ## Agenda commands at acceptance (R178, R183) -/

/-- INSERT at acceptance: the insertion fields are checked (R178). -/
def judgeInsert (s : State) : State :=
  match insertionOf s.port.params with
  | some _ => raiseHost s
  | none => badParam s

/-- QUERY at acceptance: the part number in P1 is 0 or 1 (R183). -/
def judgeQuery (s : State) : State := if s.port.params[1].toNat ≤ 1 then raiseHost s else badParam s

/-! ## Line and group commands (R186 to R188) -/

/-- The result of a LINE_SET for the line unit's answer (R186). -/
def answerResult : Answer → ResultCode
  | .applied => .ok
  | .deferred => .deferred
  | .blocked => .blocked

/-- LINE_SET at acceptance (R75, R186). -/
def judgeLineSet (s : State) : State :=
  let v := s.port.params[7]
  match lineSetRequest v with
  | some r =>
    let (a, t) := request (controlLine v) r s
    completeWith (answerResult a, t)
  | none => badParam s

/-- The group that P0 names, 0..3, or none (R187). -/
def groupParam (s : State) : Option (Fin 4) :=
  if h : s.port.params[0].toNat < 4 then some ⟨s.port.params[0].toNat, h⟩ else none

/-- A command that names one group in P0, answered by the group unit (R187). -/
def judgeGroup (answer : Fin 4 → State → ResultCode × State) (s : State) : State :=
  match groupParam s with
  | some g => completeWith (answer g s)
  | none => badParam s

/-- The group unit's answer to GROUP_START (R98). -/
def startGroup (g : Fin 4) (s : State) : ResultCode × State :=
  match s.groups[g].state with
  | .off =>
    if levelAsserted g s then (.stillAsserted, s)
    else (.ok, withGroup g { s.groups[g] with state := .run } s)
  | .run => (.wrongState, s)
  | .tripped => (.wrongState, s)

/-- The group unit's answer to GROUP_STOP (R99). -/
def stopGroup (g : Fin 4) (s : State) : ResultCode × State :=
  match s.groups[g].state with
  | .run => (.ok, withGroup g { s.groups[g] with state := .off } s)
  | .off => (.wrongState, s)
  | .tripped => (.wrongState, s)

/-- The group unit's answer to RELEASE, by the first case of R101 that holds. -/
def releaseGroup (g : Fin 4) (s : State) : ResultCode × State :=
  match s.groups[g].state with
  | .off => (.wrongState, s)
  | .run => (.wrongState, s)
  | .tripped =>
    if levelAsserted g s then (.stillAsserted, s)
    else if s.groups[g].purgePending then (.purgePending, s)
    else (.ok, withGroup g { s.groups[g] with state := .run, causes := noCauses } s)

/-- TRIP at acceptance: a mask with a bit above the fourth is BAD_PARAM; else one request with cause
HOST for each group named (R100, R188). -/
def judgeTrip (s : State) : State :=
  if s.port.params[0].toNat < 16 then
    completeWith (.ok, tripMask s.port.params[0].toNat .host s)
  else badParam s

/-! ## Batch commands (R189 to R191) -/

/-- The edit of a BATCH_INSERT, from P0..P7 (R189). -/
def insertEdit (s : State) : Option Edit := (insertionOf s.port.params).map Edit.insert

/-- The edit of a BATCH_CANCEL: the handle in P0 (R189). -/
def cancelEdit (s : State) : Edit := .cancel (handleOfWord s.port.params[0])

/-- The edit of a BATCH_RETIME: the handle in P0, the new due in P1 and P2 (R189). -/
def retimeEdit (s : State) : Edit :=
  .retime (handleOfWord s.port.params[0]) (ofHalves s.port.params[1] s.port.params[2])

/-- The batch unit's answer to BATCH_INSERT. -/
def answerInsert (s : State) : ResultCode × State :=
  match insertEdit s with
  | some e => stage e s
  | none => (.badParam, s)

/-- The batch unit's answer to BATCH_CANCEL. -/
def answerCancel (s : State) : ResultCode × State := stage (cancelEdit s) s

/-- The batch unit's answer to BATCH_RETIME. -/
def answerRetime (s : State) : ResultCode × State := stage (retimeEdit s) s

/-- The batch unit's answer to BATCH_COMMIT, by the mode in P0: 0 NOW, 1 ENTRY with the handle in P1;
any other is BAD_PARAM (R147, R190). -/
def answerCommit (s : State) : ResultCode × State :=
  match s.port.params[0].toNat with
  | 0 => commitNow s
  | 1 => commitEntry (handleOfWord s.port.params[1]) s
  | _ => (.badParam, s)

/-- Whether the batch apply service is under way (R150). -/
def applyRuns (s : State) : Bool :=
  match s.arbiter.activity with
  | some v => v.claim = .apply
  | none => false

/-- A command whose owner holds its answer: the port is WAITING until the answer comes (R176). -/
def hold (h : Held) (s : State) : State := withPort { s.port with waiting := true, held := some h } s

/-- A batch command that passed its checks: held while the apply service runs, else answered at once
(R150, R176). -/
def judgeBatch (answer : State → ResultCode × State) (s : State) : State :=
  if applyRuns s then hold .duringApply s else completeWith (answer s)

/-- BATCH_INSERT at acceptance: the checks of INSERT (R189). -/
def judgeBatchInsert (s : State) : State :=
  match insertEdit s with
  | some _ => judgeBatch answerInsert s
  | none => badParam s

/-- BATCH_COMMIT at acceptance: the mode is checked; a commit with ENTRY waits for the end of any
service under way (R148, R176, R190). -/
def judgeCommit (s : State) : State :=
  match s.port.params[0].toNat with
  | 0 => judgeBatch answerCommit s
  | 1 =>
    if applyRuns s then hold .duringApply s
    else if s.arbiter.activity.isSome then hold .commitEntry s
    else completeWith (answerCommit s)
  | _ => badParam s

/-- What CMD's code makes of a taken command (R173, R200). -/
def judge (v : Word) : State → State :=
  match v.toNat with
  | 0x01 => judgeInsert
  | 0x02 => raiseHost
  | 0x03 => raiseHost
  | 0x04 => raiseHost
  | 0x05 => judgeQuery
  | 0x06 => raiseHost
  | 0x08 => judgeLineSet
  | 0x10 => judgeGroup startGroup
  | 0x11 => judgeGroup stopGroup
  | 0x12 => judgeTrip
  | 0x13 => judgeGroup releaseGroup
  | 0x20 => judgeBatchInsert
  | 0x21 => judgeBatch answerCancel
  | 0x22 => judgeBatch answerRetime
  | 0x23 => judgeCommit
  | 0x24 => judgeBatch discard
  | 0x3F => raiseHost
  | _ => complete .badCommand []

/-- The batch unit's answer to the batch command in progress, by its code. -/
def answerHeld (s : State) : ResultCode × State :=
  match s.port.cmd.toNat with
  | 0x20 => answerInsert s
  | 0x21 => answerCancel s
  | 0x22 => answerRetime s
  | 0x23 => answerCommit s
  | _ => discard s

/-- The answer of a held batch command, given when no service is under way (R148, R150, R176). That it is an
event of its own after the service's end, with other commands taken between where they are queued so, is the
model's choice (log 31). -/
def heldAnswer (h : Held) (s : State) : State :=
  if s.port.held = some h ∧ s.arbiter.activity = none then completeWith (answerHeld s) else s

/-! ## The commands -/

/-- INSERT (R178): a CMD write of 01h. -/
def execInsert (s : State) : Result := .next (writeCmd 0x01 judgeInsert s)

/-- CANCEL (R173, R180): a CMD write of 02h. -/
def execCancel (s : State) : Result := .next (writeCmd 0x02 raiseHost s)

/-- RETIME (R173, R181): a CMD write of 03h. -/
def execRetime (s : State) : Result := .next (writeCmd 0x03 raiseHost s)

/-- CANCEL_TAG (R173, R182): a CMD write of 04h. -/
def execCancelTag (s : State) : Result := .next (writeCmd 0x04 raiseHost s)

/-- QUERY (R183): a CMD write of 05h. -/
def execQuery (s : State) : Result := .next (writeCmd 0x05 judgeQuery s)

/-- HEAD (R173, R184): a CMD write of 06h. -/
def execHead (s : State) : Result := .next (writeCmd 0x06 raiseHost s)

/-- ENGINE_RESET (R173, R185): a CMD write of 3Fh. -/
def execEngineReset (s : State) : Result := .next (writeCmd 0x3F raiseHost s)

/-- BAD_COMMAND (R173): a CMD write of a value. A value that is a command code is that command
(log 9). -/
def execBadCommand (v : Word) (s : State) : Result := .next (writeCmd v (judge v) s)

/-- LINE_SET (R186): a CMD write of 08h. -/
def execLineSet (s : State) : Result := .next (writeCmd 0x08 judgeLineSet s)

/-- GROUP_START (R98, R187): a CMD write of 10h. -/
def execGroupStart (s : State) : Result := .next (writeCmd 0x10 (judgeGroup startGroup) s)

/-- GROUP_STOP (R99, R187): a CMD write of 11h. -/
def execGroupStop (s : State) : Result := .next (writeCmd 0x11 (judgeGroup stopGroup) s)

/-- TRIP (R100, R188): a CMD write of 12h. -/
def execTrip (s : State) : Result := .next (writeCmd 0x12 judgeTrip s)

/-- RELEASE (R101, R187): a CMD write of 13h. -/
def execRelease (s : State) : Result := .next (writeCmd 0x13 (judgeGroup releaseGroup) s)

/-- BATCH_INSERT (R189): a CMD write of 20h. -/
def execBatchInsert (s : State) : Result := .next (writeCmd 0x20 judgeBatchInsert s)

/-- BATCH_CANCEL (R189): a CMD write of 21h. -/
def execBatchCancel (s : State) : Result := .next (writeCmd 0x21 (judgeBatch answerCancel) s)

/-- BATCH_RETIME (R189): a CMD write of 22h. -/
def execBatchRetime (s : State) : Result := .next (writeCmd 0x22 (judgeBatch answerRetime) s)

/-- BATCH_COMMIT (R190): a CMD write of 23h. -/
def execBatchCommit (s : State) : Result := .next (writeCmd 0x23 judgeCommit s)

/-- BATCH_DISCARD (R191): a CMD write of 24h. -/
def execBatchDiscard (s : State) : Result := .next (writeCmd 0x24 (judgeBatch discard) s)

/-- COMMIT_ENTRY_ANSWER (R148): the held commit with ENTRY is answered at the end of the service. -/
def execCommitEntryAnswer (s : State) : Result := .next (heldAnswer .commitEntry s)

/-- HELD_BATCH_ANSWER (R150): the batch command held during an apply is answered at its end. -/
def execHeldBatchAnswer (s : State) : Result := .next (heldAnswer .duringApply s)

/-- PARAMETER_WRITE (R171): a write of P0..P7. -/
def execParameterWrite (k : Fin 8) (v : Word) (s : State) : Result := .next (writeParam k v s)

end Sys2Proof.Machine
end

