-- ==== Sys2Proof/Machine/Services.lean ====
section
/-! DEFINITION. The agenda arbiter (chapter Claims and Service Order): the work of each service, the grant
by rank, the service under way, and the commands that are services. -/

namespace Sys2Proof.Machine

/-! ## The work of each service

A plan is the work of a service, made from the agenda and what the grant took: the agenda the service
leaves, and what it asks of other blocks or tells them, in order (R53, log 2). -/

/-- The completion of the host's command, with nothing asked before it (R175). -/
def answer (code : ResultCode) (words : List Word) (a : Agenda) : Work := (a, [.complete code words])

/-- The expiry service: the head leaves the list and acts (R36). -/
def expiryPlan (taken : Time) (a : Agenda) : Work :=
  match a.list with
  | [] => (a, [])
  | e :: rest => act e taken { a with list := rest }

/-- The result words of an INSERT or a RETIME: the handle and the disposition (R179, R181, R200). -/
def handleWords (h : Handle) (a : Agenda) : List Word :=
  [handleWord h, fieldWord (dispositionCode (dispositionOf h a)) 0]

/-- Work that the host's command asked for, completed with OK and these words (R175, R176). -/
def answered (words : List Word) (w : Work) : Work := (w.1, w.2 ++ [.complete .ok words])

/-- The service of INSERT, in the order of the host column of R37 (R179, logs 22 and 23). -/
def insertPlan (p : Vector Word 8) (reserve : Nat) (taken : Time) (a : Agenda) : Work :=
  match insertionOf p with
  | none => answer .badParam [] a
  | some i =>
    if lateUnderDrop i.due i.late taken then answer .late [] a
    else
      match slotCheck 1 reserve a.free.length with
      | some r => answer (reasonResult r) [] a
      | none =>
        match insertEntry i .host taken a with
        | some (h, w) => answered (handleWords h w.1) w
        | none => answer .noSlot [] a

/-- The service of CANCEL (R42, R180). -/
def cancelPlan (p : Vector Word 8) (taken : Time) (a : Agenda) : Work :=
  match resolveIn (handleOfWord p[0]) a with
  | .stale => answer .stale [] a
  | .notPending => answer .notPending [] a
  | .pending e => answered [] (cancelEntry e taken a)

/-- The service of RETIME (R44, R45, R181). -/
def retimePlan (p : Vector Word 8) (taken : Time) (a : Agenda) : Work :=
  let h := handleOfWord p[0]
  match resolveIn h a with
  | .stale => answer .stale [] a
  | .notPending => answer .notPending [] a
  | .pending e =>
    match retimeEntry e (ofHalves p[1] p[2]) taken a with
    | .error r => answer (reasonResult r) [] a
    | .ok w => answered (handleWords h w.1) w

/-- The service of CANCEL_TAG (R43, R182). -/
def cancelTagPlan (p : Vector Word 8) (taken : Time) (a : Agenda) : Work :=
  let (n, w) := cancelTagged p[6] taken a
  answered [BitVec.ofNat 16 n] w

/-- The service of QUERY (R46, R183). -/
def queryPlan (p : Vector Word 8) (a : Agenda) : Work :=
  match resolveIn (handleOfWord p[0]) a with
  | .stale => answer .stale [] a
  | .notPending => answer .notPending [] a
  | .pending e => answer .ok (queryWords e p[1].toNat) a

/-- The service of HEAD (R47, R184). -/
def headPlan (a : Agenda) : Work :=
  match a.list with
  | [] => answer .notPending [] a
  | e :: _ => answer .ok [handleWord e.handle, loHalf e.due, hiHalf e.due] a

/-- The agenda after engine reset (R49, R50). -/
def engineResetAgenda (a : Agenda) : Agenda := { a with list := [], free := allSlots }

/-- The service of ENGINE_RESET: the agenda emptied, the reset moment, then the completion with OK (R49,
R59, R185). -/
def engineResetPlan (a : Agenda) : Work := (engineResetAgenda a, [.resetMoment, .complete .ok []])

/-- The host claim's service, by the code in CMD (R58). No other code raises the claim; such a command
would complete as no command (log 22). -/
def hostPlan (port : CommandPort) (reserve : Nat) (taken : Time) (a : Agenda) : Work :=
  match port.cmd.toNat with
  | 0x01 => insertPlan port.params reserve taken a
  | 0x02 => cancelPlan port.params taken a
  | 0x03 => retimePlan port.params taken a
  | 0x04 => cancelTagPlan port.params taken a
  | 0x05 => queryPlan port.params a
  | 0x06 => headPlan a
  | 0x3F => engineResetPlan a
  | _ => answer .badCommand [] a

/-- The insertion a SCHEDULE record asks for: due the capture time plus the delay, no period and no
count (R139). -/
def reactionInsertion (time : Time) (t : Template) : Insertion where
  due := time + t.delay.setWidth 32
  job := jobOf t.line t.action t.width.toNat
  repetition := .oneShot
  late := t.late
  option := t.option
  tag := t.tag

/-- The service of a pending reaction record (R139, R140). -/
def reactionPlan (record : Option PendingReaction) (taken : Time) (a : Agenda) : Work :=
  match record with
  | none => (a, [])
  | some r =>
    match r.kind with
    | .schedule => insertReaction (reactionInsertion r.time r.template) r.row taken a
    | .cancelTag => (cancelTagged r.tag taken a).2

/-- The work of the service of a claim (R51). -/
def plan (v : Service) (s : State) : Work :=
  match v.claim with
  | .expiry => expiryPlan v.taken s.agenda
  | .purge g => purgeGroup g v.taken s.agenda
  | .apply => applyBatch s.batch.staging v.reserve v.taken s.agenda
  | .reaction => reactionPlan v.record v.taken s.agenda
  | .host => hostPlan s.port v.reserve v.taken s.agenda

/-! ## The grant (R51 to R53) -/

/-- The lowest-numbered group whose purge claim waits (R52). -/
def firstPurge (s : State) : Option (Fin 4) := (List.finRange 4).find? (fun g => s.arbiter.purge[g])

/-- The claim of highest rank among those waiting, at an IDLE agenda; none while a service is under way
or a held command waits for its answer, which comes before the next grant (R52, R148, R176). -/
def nextClaim (s : State) : Option Claim :=
  if s.arbiter.activity.isSome || s.port.held.isSome then none
  else if expiryClaim s then some .expiry
  else
    match firstPurge s with
    | some g => some (.purge g)
    | none =>
      if s.arbiter.apply then some .apply
      else if !s.reactions.fifo.isEmpty then some .reaction
      else if s.arbiter.host then some .host
      else none

/-- What a grant of this claim takes: TIME and RESERVE as they stand, and for the reaction claim the
oldest record of the FIFO (R22, R53, R57). -/
def takenBy (c : Claim) (s : State) : Service where
  claim := c
  taken := s.timebase.time
  reserve := s.agenda.reserve
  record := match c with
    | .reaction => s.reactions.fifo.head?
    | .expiry => none
    | .purge _ => none
    | .apply => none
    | .host => none
  after := s.agenda
  todo := []

/-- The service that a grant of this claim begins, with its work planned (R53, log 2). -/
def serviceFor (c : Claim) (s : State) : Service :=
  let v := takenBy c s
  let w := plan v s
  { v with after := w.1, todo := w.2 }

/-- The granted claim stops waiting; the reaction's record leaves the FIFO (R52, R57). -/
def withoutClaim (c : Claim) (s : State) : State :=
  match c with
  | .expiry => s
  | .purge g => withArbiter { s.arbiter with purge := s.arbiter.purge.set g false } s
  | .apply => withArbiter { s.arbiter with apply := false } s
  | .reaction => withReactions { s.reactions with fifo := s.reactions.fifo.tail } s
  | .host => withArbiter { s.arbiter with host := false } s

/-- The agenda SERVING. -/
def serving (v : Service) (s : State) : State := withArbiter { s.arbiter with activity := some v } s

/-- The state right after the grant of a claim: SERVING, the claim no longer waiting (R52). -/
def granted (c : Claim) (s : State) : State := serving (serviceFor c s) (withoutClaim c s)

/-! ## The engine reset (R49, R59) -/

/-- A line after engine reset (R85). -/
def engineResetLine (l : Line) : Line := { l with active := false }

/-- A pair after engine reset (R85). -/
def engineResetPair (p : Pair) : Pair := { p with running := none, deferral := none }

/-- A group after engine reset (R106). -/
def engineResetGroup (g : Group) : Group := { g with purgePending := false }

/-- The line unit after engine reset (R85). -/
def engineResetLines (u : LineUnit) : LineUnit where
  lines := mapAll engineResetLine u.lines
  pairs := mapAll engineResetPair u.pairs

/-- The purge, batch apply and reaction claims are withdrawn (R59). -/
def withdrawClaims (a : Arbiter) : Arbiter :=
  { a with purge := Vector.replicate 4 false, apply := false }

/-- The reset moment of ENGINE_RESET: every block but the agenda, whose list the service leaves empty, takes
its engine-reset values (R49, R59); the timebase, the command port's registers, IRQ_EN, REJECT and the pins are not reached (R14, R177, R195,
R198). -/
def engineReset (s : State) : State :=
  { s with
    arbiter := withdrawClaims s.arbiter
    lines := engineResetLines s.lines
    groups := mapAll engineResetGroup s.groups
    capture := engineResetCapture s.capture
    reactions := engineResetReactions s.reactions
    batch := clearedBatch s.batch
    reports := { s.reports with queue := [], lost := 0 }
    irq := { s.irq with flags := engineClearedFlags s.irq.flags } }

/-! ## The service under way (R53) -/

/-- One request, offer or notice of a service, answered by the other block as it stands at this moment,
and the offer of an act's record that follows its request (R27, R53, R166). -/
def runTask (k : Task) (s : State) : State × List Task :=
  match k with
  | .request l r record =>
    let (a, t) := request l r s
    let offer := record.map fun x => Task.offer { x with kind := actKind a t.groups[groupOf l].state x.kind }
    (t, offer.toList)
  | .offer r => (offerReport r s, [])
  | .allocated free => (if free < s.agenda.poolLow then setPoolLow s else s, [])
  | .acted h => (boundaryAct h s, [])
  | .gone h => (boundaryGone h s, [])
  | .purged g n => (withGroup g { s.groups[g] with lastPurgeCount := n, purgePending := false } s, [])
  | .resetMoment => (engineReset s, [])
  | .endBatch e => (endBatch e s, [])
  | .complete code words => (complete code words s, [])

/-- Tasks in order, each with the offer it brings, with no event of another block between. -/
def runTasks : List Task → State → State
  | [], s => s
  | k :: ks, s =>
    let (t, more) := runTask k s
    runTasks ks (more.foldl (fun u m => (runTask m u).1) t)

/-- The agenda with the list, the free queue and the generations that a service leaves; RESERVE and
POOL_LOW_TH are registers of the host's (R22, R23). -/
def publish (a : Agenda) (s : State) : State :=
  withAgenda { s.agenda with list := a.list, free := a.free, gens := a.gens } s

/-- The end of a service: other blocks read the agenda as it leaves it, and the agenda is IDLE (R53). -/
def endService (v : Service) (s : State) : State :=
  withArbiter { s.arbiter with activity := none } (publish v.after s)

/-- The next request, offer or notice of a service under way; the service ends with its last. -/
def advance (v : Service) (s : State) : State :=
  match v.todo with
  | [] => endService v s
  | k :: ks =>
    let (t, more) := runTask k s
    match more ++ ks with
    | [] => endService v t
    | todo => serving { v with todo := todo } t

/-- The rest of a service under way. -/
def finish (v : Service) (s : State) : State := endService v (runTasks v.todo s)

/-- Whether the arbiter would grant this row's claim now: it is the waiting claim of highest rank, and
the service it stands for is this row's. -/
def grantable (c : Claim) (serves : Service → State → Bool) (s : State) : Bool :=
  nextClaim s = some c && serves (serviceFor c s) s

/-- A part of the service under way, where the row stands for that service; else the row's step does not
take place (log 3). -/
def underWayStep (c : Claim) (serves : Service → State → Bool) (go : Service → State → State)
    (s : State) : State :=
  match s.arbiter.activity with
  | some v => if v.claim = c ∧ serves v s then go v s else s
  | none => s

/-- A row that stands for an agenda service: the whole service, its grant, the next of its requests,
offers and notices, or the rest of it (R52, R53, log 2). Where the claim is not the one granted, or the
service is not the one under way, the row's step does not take place (log 3). -/
def serviceRow (part : ServicePart) (c : Claim) (serves : Service → State → Bool) (s : State) : State :=
  match part with
  | .whole => if grantable c serves s then finish (serviceFor c s) (granted c s) else s
  | .grant => if grantable c serves s then granted c s else s
  | .advance => underWayStep c serves advance s
  | .finish => underWayStep c serves finish s

/-- Every service of the claim is this row's. -/
def anyService (_ : Service) (_ : State) : Bool := true

/-- The host claim's service is this row's when CMD holds its code (R58). -/
def servesCommand (code : Word) (_ : Service) (s : State) : Bool := s.port.cmd = code

/-- The reaction claim's service is a SCHEDULE insertion (R57). -/
def servesSchedule (v : Service) (_ : State) : Bool :=
  match v.record with
  | some r => r.kind = .schedule
  | none => false

/-- The reaction claim's service is a CANCEL_TAG removal (R57). -/
def servesCancelTag (v : Service) (_ : State) : Bool :=
  match v.record with
  | some r => r.kind = .cancelTag
  | none => false

/-! ## The arbiter's own move (R52, R148, R176) -/

/-- The answer of a held batch command, which comes at the end of a service and before the next grant
(R148, R150, R176). -/
def answerAtEnd (s : State) : State :=
  match s.port.held with
  | some h => heldAnswer h s
  | none => s

/-- The request that a service just granted begins with, made at once; a service that begins with another
move stands. An act of slip 0 thus changes its pin in the period of its grant, at the tick its entry was due
(R68); that the requests of other services come as early is the model's choice (log 33). -/
def firstRequest (s : State) : State :=
  match s.arbiter.activity with
  | some v =>
    match v.todo with
    | .request l r record :: ks =>
      let (t, more) := runTask (.request l r record) s
      serving { v with todo := more ++ ks } t
    | _ => s
  | none => s

/-- The grant of the waiting claim of highest rank at an IDLE agenda, with the request its service begins
with (R52, R68). -/
def grantNext (s : State) : State :=
  match nextClaim s with
  | some c => firstRequest (granted c s)
  | none => s

/-- What the agenda and its arbiter do in one core-clock period: the service under way goes on by one
request, offer or notice; at an IDLE agenda a held command is answered, and the waiting claim of highest
rank is granted, with the request its service begins with, so that no claim waits at an IDLE agenda (R52, R53,
R68, R148; log 19). -/
def arbiterMove (s : State) : State :=
  grantNext (answerAtEnd
    (match s.arbiter.activity with
      | some v => advance v s
      | none => s))

/-! ## The commands -/

/-- EXPIRY_SERVICE (R36). -/
def execExpiryService (part : ServicePart) (s : State) : Result :=
  .next (serviceRow part .expiry anyService s)

/-- INSERT_SERVICE (R179). -/
def execInsertService (part : ServicePart) (s : State) : Result :=
  .next (serviceRow part .host (servesCommand 0x01) s)

/-- CANCEL_SERVICE (R180). -/
def execCancelService (part : ServicePart) (s : State) : Result :=
  .next (serviceRow part .host (servesCommand 0x02) s)

/-- RETIME_SERVICE (R181). -/
def execRetimeService (part : ServicePart) (s : State) : Result :=
  .next (serviceRow part .host (servesCommand 0x03) s)

/-- CANCEL_TAG_SERVICE (R182). -/
def execCancelTagService (part : ServicePart) (s : State) : Result :=
  .next (serviceRow part .host (servesCommand 0x04) s)

/-- QUERY_SERVICE (R46, R183). -/
def execQueryService (part : ServicePart) (s : State) : Result :=
  .next (serviceRow part .host (servesCommand 0x05) s)

/-- HEAD_SERVICE (R184). -/
def execHeadService (part : ServicePart) (s : State) : Result :=
  .next (serviceRow part .host (servesCommand 0x06) s)

/-- ENGINE_RESET_SERVICE (R49). -/
def execEngineResetService (part : ServicePart) (s : State) : Result :=
  .next (serviceRow part .host (servesCommand 0x3F) s)

/-- PURGE (R48) of a group. -/
def execPurge (g : Fin 4) (part : ServicePart) (s : State) : Result :=
  .next (serviceRow part (.purge g) anyService s)

/-- REACTION_SCHEDULE (R139). -/
def execReactionSchedule (part : ServicePart) (s : State) : Result :=
  .next (serviceRow part .reaction servesSchedule s)

/-- REACTION_CANCEL_TAG (R140). -/
def execReactionCancelTag (part : ServicePart) (s : State) : Result :=
  .next (serviceRow part .reaction servesCancelTag s)

/-- BATCH_APPLY (R150). -/
def execBatchApply (part : ServicePart) (s : State) : Result :=
  .next (serviceRow part .apply anyService s)

end Sys2Proof.Machine
end

