-- ==== Sys2Proof/Machine/Groups.lean ====
section
/-! DEFINITION. The line unit's and the group unit's own registers and events: LINE_CFG, PAIR_CFG,
GROUP_CFG and GROUP_STAT writes, guard ends, trip pin events, and the level every output pin shows. -/

namespace Sys2Proof.Machine

/-! ## Output pins (R68) -/

/-- What an output pin shows. -/
inductive PinLevel where
  | high | low | floating
deriving DecidableEq, Repr

/-- The pin level that stands for ACTIVE or INACTIVE under a polarity (R65). -/
def levelFor (p : Polarity) (active : Bool) : PinLevel :=
  match p with
  | .activeHigh => if active then .high else .low
  | .activeLow => if active then .low else .high

/-- The pin level of a line in a group state (R68). -/
def pinLevel (l : Line) (g : GroupState) : PinLevel :=
  match l.mode with
  | .off => .floating
  | .drive =>
    match g with
    | .off => .floating
    | .run => levelFor l.polarity l.active
    | .tripped =>
      match l.safe with
      | .inactive => levelFor l.polarity false
      | .active => levelFor l.polarity true
      | .float => .floating

/-- The level of an output pin (R68). -/
def outPin (s : State) (l : Fin 16) : PinLevel := pinLevel s.lines.lines[l] s.groups[groupOf l].state

/-! ## Line and pair configuration (R65, R66, R76) -/

/-- Whether both lines of an interlocked pair would have safe level ACTIVE (R66). -/
def safeConflict (l : Fin 16) (safe : SafeLevel) (s : State) : Bool :=
  safe = .active && s.lines.pairs[pairOf l].interlock && s.lines.lines[partnerOf l].safe = .active

/-- A line with the fields of a LINE_CFG word (R202). -/
def configuredLine (x : Line) (v : Word) (safe : SafeLevel) : Line :=
  { x with
    mode := if bit v 0 then .drive else .off
    polarity := if bit v 1 then .activeLow else .activeHigh
    safe := safe }

/-- A write of LINE_CFGn (R65, R66). -/
def writeLineCfg (l : Fin 16) (v : Word) (s : State) : State :=
  match s.groups[groupOf l].state with
  | .off =>
    match safeLevelOfCode (field v 2 2) with
    | some safe =>
      if safeConflict l safe s then refuse (.lineCfg l) .range s
      else
        withLines
          { s.lines with lines := s.lines.lines.set l (configuredLine s.lines.lines[l] v safe) } s
    | none => refuse (.lineCfg l) .range s
  | .run => refuse (.lineCfg l) .wrongState s
  | .tripped => refuse (.lineCfg l) .wrongState s

/-- Whether a PAIR_CFG word is refused with RANGE: a guard above 1023, or an interlock switched on
while both lines are ACTIVE or both have safe level ACTIVE (R76). -/
def pairRefused (p : Fin 8) (v : Word) (s : State) : Bool :=
  let a := s.lines.lines[lineOn p 0]
  let b := s.lines.lines[lineOn p 1]
  Config.guardMax < field v 0 11
    || (bit v 15 && !s.lines.pairs[p].interlock
      && ((a.active && b.active) || (a.safe = .active && b.safe = .active)))

/-- A pair with the fields of a PAIR_CFG word; a change of the interlock returns it to IDLE with no
deferral (R76, R77). -/
def configuredPair (x : Pair) (v : Word) : Pair :=
  let c := { x with interlock := bit v 15, guardTicks := field v 0 11 }
  if bit v 15 = x.interlock then c else { c with running := none, deferral := none }

/-- A write of PAIR_CFGp (R76). -/
def writePairCfg (p : Fin 8) (v : Word) (s : State) : State :=
  match s.groups[groupOfPair p].state with
  | .off =>
    if pairRefused p v s then refuse (.pairCfg p) .range s
    else setPair p (configuredPair s.lines.pairs[p] v) s
  | .run => refuse (.pairCfg p) .wrongState s
  | .tripped => refuse (.pairCfg p) .wrongState s

/-! ## Group configuration and status (R87, R88) -/

/-- A write of GROUP_CFGg (R87, R202). -/
def writeGroupCfg (g : Fin 4) (v : Word) (s : State) : State :=
  match s.groups[g].state with
  | .off =>
    match tripUseOfCode (field v 0 2), tripUseOfCode (field v 2 2) with
    | some u0, some u1 =>
      withGroup g
        { s.groups[g] with
          use0 := u0, use1 := u1, policy := if bit v 4 then .purge else .hold } s
    | _, _ => refuse (.groupCfg g) .range s
  | .run => refuse (.groupCfg g) .wrongState s
  | .tripped => refuse (.groupCfg g) .wrongState s

/-- A write of GROUP_STATg: the status view is selected (R88). -/
def writeGroupStat (g : Fin 4) (v : Word) (s : State) : State :=
  if h : v.toNat < 4 then withGroup g { s.groups[g] with view := ⟨v.toNat, h⟩ } s
  else refuse (.groupStat g) .range s

/-! ## Trip pins (R89, R90) -/

/-- The count of samples of a pin, with one sample more (`hit` is a sample at the level the edge goes
to), and whether the edge is seen at that sample: two or more samples before it, and this the second
after (R1, R89). -/
def takeSample (d : EdgeSamples) (hit : Bool) : EdgeSamples × Bool :=
  if hit then ({ d with after := min 2 (d.after + 1) }, 2 ≤ d.before && d.after == 1)
  else if d.after = 0 then ({ d with before := min 2 (d.before + 1) }, false)
  else ({ before := 1, after := 0 }, false)

/-- A trip pin brought to a level from outside (true is high). -/
def setTripPin (pin : Fin 2) (level : Bool) (s : State) : State :=
  withPins { s.pins with trip := s.pins.trip.set pin level } s

/-- The state with another count of samples of a trip pin. -/
def setTripSamples (pin : Fin 2) (d : EdgeSamples) (s : State) : State :=
  withPins { s.pins with tripSamples := s.pins.tripSamples.set pin d } s

/-- The samples a seen fall leaves: high twice or more, then low twice (R89). -/
def fallSeen : EdgeSamples where
  before := 2
  after := 2

/-- Whether the row TRIP_PIN_FALL can take a fall of a trip pin: the pin is high, or it is low after two high
samples and its second low one is still to come (R89). That a high pin can fall by the row whatever number of
its samples is held is the model's choice (log 30). -/
def canFall (pin : Fin 2) (s : State) : Bool :=
  !pinAsserted pin s
    || (2 ≤ s.pins.tripSamples[pin].before && s.pins.tripSamples[pin].after < 2)

/-- One core-clock sample of a trip pin at its present level; a fall that is seen trips (R89, R90). -/
def sampleTripPin (pin : Fin 2) (s : State) : State :=
  let x := takeSample s.pins.tripSamples[pin] (pinAsserted pin s)
  let t := setTripSamples pin x.1 s
  if x.2 then pinTrip pin t else t

/-! ## The commands -/

/-- LINE_CFG_WRITE (R65, R66). -/
def execLineCfgWrite (l : Fin 16) (v : Word) (s : State) : Result := .next (writeLineCfg l v s)

/-- PAIR_CFG_WRITE (R76). -/
def execPairCfgWrite (p : Fin 8) (v : Word) (s : State) : Result := .next (writePairCfg p v s)

/-- GROUP_CFG_WRITE (R87). -/
def execGroupCfgWrite (g : Fin 4) (v : Word) (s : State) : Result := .next (writeGroupCfg g v s)

/-- STATUS_VIEW_SELECT (R88). -/
def execStatusViewSelect (g : Fin 4) (v : Word) (s : State) : Result := .next (writeGroupStat g v s)

/-- GUARD_END (R79) of a pair: it takes place in the tick that made TIME its end time; for any other
pair it does nothing (R80, log 3, log 4). -/
def execGuardEnd (p : Fin 8) (s : State) : Result := .next (guardEndIfReached p s)

/-- TRIP_PIN_FALL (R89, R90): the pin goes low and its fall is seen. The row stands for a whole fall, with the
two high samples and the two low ones of R89, whatever samples the model holds for a high pin: the model's
choice (log 30). A pin whose fall has been seen, or that was low from the reset on, cannot fall again before it
rises (R89, R105, log 3). -/
def execTripPinFall (pin : Fin 2) (s : State) : Result :=
  .next
    (if canFall pin s then pinTrip pin (setTripSamples pin fallSeen (setTripPin pin false s)) else s)

/-- TRIP_PIN_RISE (R89): the pin is sampled high again and is no longer asserted. The row counts as one high
sample, on a pin that is high already too: the model's choice (log 30). -/
def execTripPinRise (pin : Fin 2) (s : State) : Result :=
  .next (setTripSamples pin (takeSample s.pins.tripSamples[pin] false).1 (setTripPin pin true s))

end Sys2Proof.Machine
end

