-- ==== Sys2Proof/Machine/Timebase.lean ====
section
/-! DEFINITION. The timebase (chapter Time): ticks and source events, TB_CTRL writes, writing and reading
TIME. -/

namespace Sys2Proof.Machine

/-! ## Operations -/

/-- The prescale, 1..256 (R6). -/
def prescaleOf (t : Timebase) : Nat := t.prescaleField.toNat + 1

/-- Whether the next counted source event completes a tick interval (R2). -/
def tickDue (t : Timebase) : Bool := prescaleOf t ≤ t.phase + 1

/-- A tick: the phase returns to 0 and TIME advances by 1 (R2, R3). A guard end that the tick before
brought about and that no GUARD_END has taken yet takes place first, so none is passed over (R79,
log 4). -/
def advanceTime (s : State) : State :=
  let t := endReachedGuards s
  withTimebase { t.timebase with time := t.timebase.time + 1, phase := 0 } t

/-- A source event of the tick source `source` (R1, R2): counted while RUNNING and selected. As the command
SOURCE_EVENT of EXTERNAL it is an edge of TCLK already taken: it leaves the level of TCLK and the count of its
samples as they were, and no command brings TCLK to a level (DESIGN CHOICE, log 5). -/
def countSourceEvent (source : TickSource) (s : State) : State :=
  if s.timebase.running && s.timebase.source = source then
    if tickDue s.timebase then advanceTime s
    else withTimebase { s.timebase with phase := s.timebase.phase + 1 } s
  else s

/-- A write of TB_CTRL with these fields, taken or refused by the table of R6; a start by R4, a stop by
R5. -/
def writeTbCtrl (run : Bool) (source : TickSource) (prescale : BitVec 8) (s : State) : State :=
  let t := s.timebase
  if t.running then
    if source = t.source ∧ prescale = t.prescaleField then
      if run then s else withTimebase { t with running := false } s
    else refuse .tbCtrl .wrongState s
  else
    let u := { t with source := source, prescaleField := prescale }
    if run then withTimebase { u with running := true, phase := 0 } s else withTimebase u s

/-- A write of the whole TB_CTRL word: RUN in bit 15, SOURCE in bit 8, PRESCALE in bits 7:0 (R202). -/
def writeTbCtrlWord (v : Word) (s : State) : State :=
  writeTbCtrl (bit v 15) (if bit v 8 then .external else .internal) (v.setWidth 8) s

/-- A write of TIME_HI: the write hold takes the value (R8). -/
def writeTimeHi (v : Word) (s : State) : State := withTimebase { s.timebase with writeHold := v } s

/-- Whether a TIME_LO write is taken: STOPPED, the agenda IDLE and empty (R9). -/
def timeWritable (s : State) : Bool :=
  !s.timebase.running && s.arbiter.activity.isNone && pendingCount s = 0

/-- A write of TIME_LO: TIME becomes the write hold and the value, and every running guard and deferral
keeps its remaining ticks; refused where R9 refuses it (R9, R81). -/
def writeTimeLo (v : Word) (s : State) : State :=
  if timeWritable s then
    let time := ofHalves v s.timebase.writeHold
    let d := time - s.timebase.time
    withTimebase { s.timebase with time := time }
      (withLines { s.lines with pairs := mapAll (shiftPair d) s.lines.pairs } s)
  else refuse .timeLo .wrongState s

/-- A read of TIME_LO: D0..D15 carry the low half and the read snapshot takes the high half (R10). -/
def readTimeLo (s : State) : State :=
  { withTimebase { s.timebase with snapshot := hiHalf s.timebase.time } s with
    dataOut := loHalf s.timebase.time }

/-! ## The commands -/

/-- TICK (R3): the counted source event that completes a tick interval. It takes place while RUNNING
and with the phase at its last value; elsewhere no tick takes place (log 3). -/
def execTick (s : State) : Result :=
  .next (if s.timebase.running && tickDue s.timebase then advanceTime s else s)

/-- SOURCE_EVENT (R1, R2): an event of this source. One that completes the interval makes the tick
(log 5). -/
def execSourceEvent (source : TickSource) (s : State) : Result := .next (countSourceEvent source s)

/-- START (R4): a TB_CTRL write with RUN = RUNNING. -/
def execStart (source : TickSource) (prescale : BitVec 8) (s : State) : Result :=
  .next (writeTbCtrl true source prescale s)

/-- STOP (R5): a TB_CTRL write with RUN = STOPPED. -/
def execStop (source : TickSource) (prescale : BitVec 8) (s : State) : Result :=
  .next (writeTbCtrl false source prescale s)

/-- TB_CONFIG (R6): a TB_CTRL write of the whole word. -/
def execTbConfig (v : Word) (s : State) : Result := .next (writeTbCtrlWord v s)

/-- TIME_HI_WRITE (R8). -/
def execTimeHiWrite (v : Word) (s : State) : Result := .next (writeTimeHi v s)

/-- TIME_LO_WRITE (R9). -/
def execTimeLoWrite (v : Word) (s : State) : Result := .next (writeTimeLo v s)

/-- TIME_LO_READ (R10). -/
def execTimeLoRead (s : State) : Result := .next (readTimeLo s)

end Sys2Proof.Machine
end

