-- ==== Sys2Proof/Machine/Window.lean ====
section
/-! DEFINITION. The register window (chapter Register Window and Interrupt): what a read of any word
returns, what a write of any word does, and the commands that are writes of the reports' and the
interrupt unit's registers. -/

namespace Sys2Proof.Machine

/-! ## Reads (R192 to R205) -/

/-- A number in a whole word. -/
def numWord (n : Nat) : Word := fieldWord n 0

/-- A word with bit n given by a function of n. -/
def wordOfBits (n : Nat) (b : Nat → Bool) : Word :=
  (List.range n).foldl (fun w k => w ||| bitWord (b k) k) 0

/-- The LINE_CFG word (R202). -/
def lineCfgWord (l : Line) : Word :=
  bitWord (l.mode = .drive) 0 ||| bitWord (l.polarity = .activeLow) 1
    ||| fieldWord (safeLevelCode l.safe) 2

/-- The PAIR_CFG word (R202). -/
def pairCfgWord (p : Pair) : Word :=
  fieldWord p.guardTicks 0 ||| bitWord p.running.isSome 14 ||| bitWord p.interlock 15

/-- The GROUP_CFG word (R202). -/
def groupCfgWord (g : Group) : Word :=
  fieldWord (tripUseCode g.use0) 0 ||| fieldWord (tripUseCode g.use1) 2
    ||| bitWord (g.policy = .purge) 4

/-- The GROUP_STAT word of the selected view (R88, R203). -/
def groupStatWord (g : Group) : Word :=
  match g.view with
  | 0 =>
    fieldWord (groupStateCode g.state) 0 ||| bitWord g.causes.pin0 4 ||| bitWord g.causes.pin1 5
      ||| bitWord g.causes.reaction 6 ||| bitWord g.causes.host 7
      ||| fieldWord (causeCode g.firstCause) 8 ||| bitWord g.purgePending 11
  | 1 => numWord g.lastPurgeCount
  | 2 => loHalf g.tripTime
  | 3 => hiHalf g.tripTime

/-- The IN_CFG word (R202). -/
def inCfgWord (i : Input) : Word :=
  bitWord i.enable 0 ||| fieldWord (edgeSelectCode i.edge) 1 ||| bitWord i.queued 3
    ||| fieldWord i.filter 4

/-- CAP_HEAD0..2 of the oldest capture record, 0 with the queue empty (R118, R204). -/
def capHeadWord (k : Fin 3) (q : List Capture) : Word :=
  match q with
  | [] => 0
  | r :: _ =>
    match k with
    | 0 =>
      r.seq.setWidth 16 ||| fieldWord r.line.val 8 ||| bitWord (r.edge = .fall) 11
        ||| bitWord r.filtered 12
    | 1 => loHalf r.time
    | 2 => hiHalf r.time

/-- RPT_HEAD0 of a record (R204). -/
def reportHead (r : Report) : Word :=
  fieldWord (reportKindCode r.kind) 0 ||| bitWord r.final 4 ||| bitWord r.handle.isSome 5
    ||| bitWord r.line.isSome 6 ||| fieldWord ((r.line.map Fin.val).getD 0) 7
    ||| fieldWord (originCode r.origin) 11

/-- RPT_HEAD0..7 of the oldest report record, 0 with the queue empty (R167, R204). -/
def rptHeadWord (k : Fin 8) (q : List Report) : Word :=
  match q with
  | [] => 0
  | r :: _ =>
    match k with
    | 0 => reportHead r
    | 1 => (r.handle.map handleWord).getD 0
    | 2 => r.tag
    | 3 => loHalf r.due
    | 4 => hiHalf r.due
    | 5 => loHalf r.taken
    | 6 => hiHalf r.taken
    | 7 => numWord r.missed

/-- ROW0..ROW6 of a row (R129, R205). -/
def rowWord (k : Fin 7) (r : Row) : Word :=
  match k with
  | 0 =>
    fieldWord (rowStateCode r.state) 0 ||| fieldWord r.input.val 2
      ||| fieldWord (edgeSelectCode r.edge) 5 ||| fieldWord (rowKindCode r.kind) 7
      ||| bitWord r.oneShot 9
  | 1 => r.holdoff
  | 2 => controlWord r.template.line.val r.template.action r.template.late r.template.option
  | 3 => r.template.delay.setWidth 16
  | 4 =>
    (r.template.delay.extractLsb' 16 8).setWidth 16 ||| fieldWord r.groupMask.toNat 12
  | 5 => r.template.width
  | 6 => r.template.tag

/-- The BATCH_STAT word (R143, R203): boundary 0 for NOW and where no boundary is held. -/
def batchStatWord (b : BatchUnit) : Word :=
  fieldWord (batchStateCode b.state) 0 ||| fieldWord b.staging.length 3
    ||| bitWord
      (match b.boundary with | some (.entry _) => true | some .now => false | none => false) 8
    ||| fieldWord b.failing 9 ||| fieldWord (batchReasonCode b.reason) 13

/-- The result of the selected edit; outcome NONE and handle 0 where none is recorded (R155). -/
def selectedResult (b : BatchUnit) : EditResult := (b.results[b.sel.val]?).getD noResult

/-- The BATCH_RES word (R203). -/
def batchResWord (b : BatchUnit) : Word :=
  fieldWord (resultCode (selectedResult b).outcome) 0
    ||| fieldWord (((selectedResult b).disposition.map dispositionCode).getD 0) 4

/-- The BATCH_HANDLE word (R155). -/
def batchHandleWord (b : BatchUnit) : Word := ((selectedResult b).handle.map handleWord).getD 0

/-- Whether a line is the deferred line of its pair (R67). -/
def lineDeferred (s : State) (l : Fin 16) : Bool := deferredOn s.lines.pairs[pairOf l] (sideOf l)

/-- What a read of a register returns (R192 to R194). A read of TIME_LO also changes the snapshot: that
is the command TIME_LO_READ (R10). -/
def readRegister (s : State) : Register → Word
  | .partId => Config.partId
  | .tbCtrl => tbCtrlWord s.timebase.running s.timebase.source s.timebase.prescaleField
  | .timeLo => loHalf s.timebase.time
  | .timeHi => s.timebase.snapshot
  | .flags => flagsWord s.irq.flags
  | .irqEn => s.irq.enable
  | .status => statusWord s
  | .reject => rejectWord s.irq.reject
  | .cmd => s.port.cmd
  | .result => numWord (resultCode s.port.result)
  | .param k => s.port.params[k]
  | .res k => s.port.res[k]
  | .freeCount => numWord (freeCount s)
  | .reserve => numWord s.agenda.reserve
  | .poolLow => numWord s.agenda.poolLow
  | .pendingCount => numWord (pendingCount s)
  | .lineCfg n => lineCfgWord s.lines.lines[n]
  | .pairCfg p => pairCfgWord s.lines.pairs[p]
  | .groupCfg g => groupCfgWord s.groups[g]
  | .groupStat g => groupStatWord s.groups[g]
  | .inCfg n => inCfgWord s.capture.inputs[n]
  | .filterInt => numWord s.capture.filterInt
  | .capTh => numWord s.capture.threshold
  | .capStat => numWord s.capture.queue.length ||| fieldWord s.capture.lost 8
  | .capHead k => capHeadWord k s.capture.queue
  | .capPop => 0
  | .rptTh => numWord s.reports.threshold
  | .rptStat => numWord s.reports.queue.length ||| fieldWord s.reports.lost 8
  | .rptHead k => rptHeadWord k s.reports.queue
  | .rptPop => 0
  | .rowSel => numWord s.reactions.sel.val
  | .row k => rowWord k (selectedRow s)
  | .reactStat => numWord s.reactions.fifo.length ||| fieldWord s.reactions.lost 8
  | .batchStat => batchStatWord s.batch
  | .batchSel => numWord s.batch.sel.val
  | .batchRes => batchResWord s.batch
  | .batchHandle => batchHandleWord s.batch
  | .pinStat => bitWord (pinAsserted 0 s) 0 ||| bitWord (pinAsserted 1 s) 1
  | .intended => wordOfBits 16 fun n => s.lines.lines[Fin.ofNat 16 n].active
  | .deferred => wordOfBits 16 fun n => lineDeferred s (Fin.ofNat 16 n)
  | .inLevels => wordOfBits 8 fun n => s.capture.inputs[Fin.ofNat 8 n].settled
  | .unmapped _ => 0

/-- What a read of a word address returns (R192, R194). -/
def readWord (s : State) (a : BitVec 7) : Word := readRegister s (registerAt a)

/-! ## Writes of registers with no block of their own above -/

/-- A write of FLAGS: each bit written 1 clears its flag (R196). -/
def writeFlags (v : Word) (s : State) : State := withFlags (clearFlags v s.irq.flags) s

/-- A write of IRQ_EN (R198); bits with no field are ignored (R193). -/
def writeIrqEn (v : Word) (s : State) : State :=
  { s with irq := { s.irq with enable := v &&& Config.irqEnableMask } }

/-- A write of RESERVE (R22). -/
def writeReserve (v : Word) (s : State) : State :=
  if v.toNat ≤ Config.reserveMax then withAgenda { s.agenda with reserve := v.toNat } s
  else refuse .reserve .range s

/-- A write of POOL_LOW_TH (R23). -/
def writePoolLow (v : Word) (s : State) : State :=
  if v.toNat ≤ Config.poolLowMax then withAgenda { s.agenda with poolLow := v.toNat } s
  else refuse .poolLow .range s

/-- A write of RPT_TH (R169). -/
def writeRptTh (v : Word) (s : State) : State :=
  if 1 ≤ v.toNat ∧ v.toNat ≤ Config.reportCapacity then
    withReports { s.reports with threshold := v.toNat } s
  else refuse .rptTh .range s

/-- A write of RPT_STAT (R168). -/
def writeRptStat (s : State) : State := withReports { s.reports with lost := 0 } s

/-- A write of RPT_POP (R167). -/
def popReport (s : State) : State :=
  match s.reports.queue with
  | [] => refuse .rptPop .queueEmpty s
  | _ :: rest => withReports { s.reports with queue := rest } s

/-- A write of BATCH_SEL (R155). -/
def writeBatchSel (v : Word) (s : State) : State :=
  if h : v.toNat < 16 then withBatch { s.batch with sel := ⟨v.toNat, h⟩ } s
  else refuse .batchSel .range s

/-- What a write of a register does, taken or refused by its access type and its own rule (R192 to
R194). -/
def writeRegister (r : Register) (v : Word) (s : State) : State :=
  match r with
  | .partId => refuse .partId .readOnly s
  | .tbCtrl => writeTbCtrlWord v s
  | .timeLo => writeTimeLo v s
  | .timeHi => writeTimeHi v s
  | .flags => writeFlags v s
  | .irqEn => writeIrqEn v s
  | .status => refuse .status .readOnly s
  | .reject => refuse .reject .readOnly s
  | .cmd => writeCmd v (judge v) s
  | .result => refuse .result .readOnly s
  | .param k => writeParam k v s
  | .res k => refuse (.res k) .readOnly s
  | .freeCount => refuse .freeCount .readOnly s
  | .reserve => writeReserve v s
  | .poolLow => writePoolLow v s
  | .pendingCount => refuse .pendingCount .readOnly s
  | .lineCfg n => writeLineCfg n v s
  | .pairCfg p => writePairCfg p v s
  | .groupCfg g => writeGroupCfg g v s
  | .groupStat g => writeGroupStat g v s
  | .inCfg n => writeInCfg n v s
  | .filterInt => writeFilterInt v s
  | .capTh => writeCapTh v s
  | .capStat => writeCapStat s
  | .capHead k => refuse (.capHead k) .readOnly s
  | .capPop => popCapture s
  | .rptTh => writeRptTh v s
  | .rptStat => writeRptStat s
  | .rptHead k => refuse (.rptHead k) .readOnly s
  | .rptPop => popReport s
  | .rowSel => writeRowSel v s
  | .row k => writeRow k v s
  | .reactStat => writeReactStat s
  | .batchStat => refuse .batchStat .readOnly s
  | .batchSel => writeBatchSel v s
  | .batchRes => refuse .batchRes .readOnly s
  | .batchHandle => refuse .batchHandle .readOnly s
  | .pinStat => refuse .pinStat .readOnly s
  | .intended => refuse .intended .readOnly s
  | .deferred => refuse .deferred .readOnly s
  | .inLevels => refuse .inLevels .readOnly s
  | .unmapped a => refuse (.unmapped a) .unmapped s

/-- What a write of a word address does (R192). -/
def writeWord (a : BitVec 7) (v : Word) (s : State) : State := writeRegister (registerAt a) v s

/-! ## Device reset and the core clock -/

/-- Every block at its device-reset values (R14, R50, R60, R84, R105, R122, R141, R159, R170, R177,
R195, R196, R198). The levels of the input pins come from outside and stand (log 7); no sample of them
has been taken. -/
def deviceReset (s : State) : State :=
  { State.reset with
    pins :=
      { s.pins with tripSamples := Vector.replicate 2 noSamples, tclkSamples := noSamples }
    pending := s.pending }

/-- One core-clock sample of TCLK (R1): the state with the count of samples, and whether a rising edge
is taken at it. -/
def sampleTclk (s : State) : State × Bool :=
  let x := takeSample s.pins.tclkSamples s.pins.tclk
  (withPins { s.pins with tclkSamples := x.1 } s, x.2)

/-- The source event of a core-clock period: the period itself with source INTERNAL, a rising edge of
TCLK taken at it with source EXTERNAL (R1). The guard ends the tick brings about take place with it
(R79). -/
def clockTimebase (s : State) : State :=
  let (t, edge) := sampleTclk s
  let u := countSourceEvent .internal t
  endReachedGuards (if edge then countSourceEvent .external u else u)

/-- Whether the next core-clock period is a sample moment (R109). -/
def sampleMomentDue (c : CaptureUnit) : Bool := c.filterInt ≤ c.samplePhase + 1

/-- One core-clock sample of every input, in ascending order (R109, R110, R111, R113): a filtered input
uses it only at a sample moment. -/
def clockInputs (s : State) : State :=
  let moment := sampleMomentDue s.capture
  (List.finRange 8).foldl
    (fun t n =>
      if moment && isFiltered t.capture.inputs[n] then filterStep n t.pins.inputs[n] t
      else sampleInput n t.pins.inputs[n] t)
    (withCapture
      { s.capture with samplePhase := if moment then 0 else s.capture.samplePhase + 1 } s)

/-- The clocked events of one core-clock period: the timebase's source events, the trip pins' samples, the
inputs' samples (R1, R89, R109, R110). -/
def clockEvents (s : State) : State :=
  clockInputs (sampleTripPin 1 (sampleTripPin 0 (clockTimebase s)))

/-- One period of the core clock: its clocked events, then the move of the agenda and its arbiter (R52,
R53). The spec gives events of one period no order; this is the model's (DESIGN CHOICE, log 13; other
orders are those of the commands in the queue). -/
def clockPeriod (s : State) : State := arbiterMove (clockEvents s)

/-! ## The commands -/

/-- RPT_POP (R167). -/
def execRptPop (s : State) : Result := .next (popReport s)

/-- RPT_STAT_WRITE (R168). -/
def execRptStatWrite (s : State) : Result := .next (writeRptStat s)

/-- RPT_TH_WRITE (R169). -/
def execRptThWrite (v : Word) (s : State) : Result := .next (writeRptTh v s)

/-- FLAGS_WRITE (R196). -/
def execFlagsWrite (v : Word) (s : State) : Result := .next (writeFlags v s)

/-- IRQ_EN_WRITE (R198). -/
def execIrqEnWrite (v : Word) (s : State) : Result := .next (writeIrqEn v s)

/-- REGISTER_WRITE (R193): a write of any word of the window. -/
def execRegisterWrite (a : BitVec 7) (v : Word) (s : State) : Result := .next (writeWord a v s)

/-- DEVICE_RESET (R60): the whole of RESET# low, and its rise (log 7). -/
def execDeviceReset (s : State) : Result := .next (deviceReset s)

end Sys2Proof.Machine
end

