-- ==== Sys2Proof/Machine/Dispatch.lean ====
section
/-! DEFINITION. One arm per command of the opcode table, each one call of its meaning. -/

namespace Sys2Proof.Machine

/-- A command's effect on everything but the queue. -/
def exec (i : Instr) (s : State) : Host.Outcome State Fault Refusal :=
  match i with
  | .tick => Sys2Proof.Machine.execTick s
  | .start source prescale => Sys2Proof.Machine.execStart source prescale s
  | .stop source prescale => Sys2Proof.Machine.execStop source prescale s
  | .tbConfig value => Sys2Proof.Machine.execTbConfig value s
  | .timeHiWrite value => Sys2Proof.Machine.execTimeHiWrite value s
  | .timeLoWrite value => Sys2Proof.Machine.execTimeLoWrite value s
  | .timeLoRead => Sys2Proof.Machine.execTimeLoRead s
  | .expiryService part => Sys2Proof.Machine.execExpiryService part s
  | .insert => Sys2Proof.Machine.execInsert s
  | .insertService part => Sys2Proof.Machine.execInsertService part s
  | .cancel => Sys2Proof.Machine.execCancel s
  | .cancelService part => Sys2Proof.Machine.execCancelService part s
  | .retime => Sys2Proof.Machine.execRetime s
  | .retimeService part => Sys2Proof.Machine.execRetimeService part s
  | .cancelTag => Sys2Proof.Machine.execCancelTag s
  | .cancelTagService part => Sys2Proof.Machine.execCancelTagService part s
  | .query => Sys2Proof.Machine.execQuery s
  | .queryService part => Sys2Proof.Machine.execQueryService part s
  | .head => Sys2Proof.Machine.execHead s
  | .headService part => Sys2Proof.Machine.execHeadService part s
  | .engineReset => Sys2Proof.Machine.execEngineReset s
  | .engineResetService part => Sys2Proof.Machine.execEngineResetService part s
  | .badCommand value => Sys2Proof.Machine.execBadCommand value s
  | .lineSet => Sys2Proof.Machine.execLineSet s
  | .groupStart => Sys2Proof.Machine.execGroupStart s
  | .groupStop => Sys2Proof.Machine.execGroupStop s
  | .trip => Sys2Proof.Machine.execTrip s
  | .release => Sys2Proof.Machine.execRelease s
  | .tripPinFall pin => Sys2Proof.Machine.execTripPinFall pin s
  | .purge group part => Sys2Proof.Machine.execPurge group part s
  | .guardEnd pair => Sys2Proof.Machine.execGuardEnd pair s
  | .inputChange input level => Sys2Proof.Machine.execInputChange input level s
  | .filterSample levels => Sys2Proof.Machine.execFilterSample levels s
  | .reactionSchedule part => Sys2Proof.Machine.execReactionSchedule part s
  | .reactionCancelTag part => Sys2Proof.Machine.execReactionCancelTag part s
  | .arm => Sys2Proof.Machine.execArm s
  | .disarm => Sys2Proof.Machine.execDisarm s
  | .rearm => Sys2Proof.Machine.execRearm s
  | .rowFieldWrite word value => Sys2Proof.Machine.execRowFieldWrite word value s
  | .batchInsert => Sys2Proof.Machine.execBatchInsert s
  | .batchCancel => Sys2Proof.Machine.execBatchCancel s
  | .batchRetime => Sys2Proof.Machine.execBatchRetime s
  | .batchCommit => Sys2Proof.Machine.execBatchCommit s
  | .commitEntryAnswer => Sys2Proof.Machine.execCommitEntryAnswer s
  | .batchDiscard => Sys2Proof.Machine.execBatchDiscard s
  | .batchApply part => Sys2Proof.Machine.execBatchApply part s
  | .heldBatchAnswer => Sys2Proof.Machine.execHeldBatchAnswer s
  | .parameterWrite index value => Sys2Proof.Machine.execParameterWrite index value s
  | .lineCfgWrite line value => Sys2Proof.Machine.execLineCfgWrite line value s
  | .pairCfgWrite pair value => Sys2Proof.Machine.execPairCfgWrite pair value s
  | .groupCfgWrite group value => Sys2Proof.Machine.execGroupCfgWrite group value s
  | .statusViewSelect group value => Sys2Proof.Machine.execStatusViewSelect group value s
  | .inCfgWrite input value => Sys2Proof.Machine.execInCfgWrite input value s
  | .filterIntWrite value => Sys2Proof.Machine.execFilterIntWrite value s
  | .capPop => Sys2Proof.Machine.execCapPop s
  | .capStatWrite => Sys2Proof.Machine.execCapStatWrite s
  | .capThWrite value => Sys2Proof.Machine.execCapThWrite value s
  | .rptPop => Sys2Proof.Machine.execRptPop s
  | .rptStatWrite => Sys2Proof.Machine.execRptStatWrite s
  | .rptThWrite value => Sys2Proof.Machine.execRptThWrite value s
  | .reactStatWrite => Sys2Proof.Machine.execReactStatWrite s
  | .flagsWrite value => Sys2Proof.Machine.execFlagsWrite value s
  | .irqEnWrite value => Sys2Proof.Machine.execIrqEnWrite value s
  | .registerWrite address value => Sys2Proof.Machine.execRegisterWrite address value s
  | .deviceReset => Sys2Proof.Machine.execDeviceReset s
  | .sourceEvent source => Sys2Proof.Machine.execSourceEvent source s
  | .settledLevelFollowsPin input level => Sys2Proof.Machine.execSettledLevelFollowsPin input level s
  | .tripPinRise pin => Sys2Proof.Machine.execTripPinRise pin s

end Sys2Proof.Machine
end

