-- ==== Sys2Proof/WellFormed.lean ====
section
/-! DEFINITION. Which commands are well formed. The operand types keep most operands in range; three
rows name a value that another row owns, and those are checked here. An ill-formed command is not
refused by `exec`: it does what the same bus write does under its own row (log 9). -/

namespace Sys2Proof

/-- The command codes of R200, as written to CMD. -/
def commandCodes : List Word :=
  [0x01, 0x02, 0x03, 0x04, 0x05, 0x06, 0x08, 0x10, 0x11, 0x12, 0x13,
   0x20, 0x21, 0x22, 0x23, 0x24, 0x3F]

/-- The word addresses (R194) whose writes have a row of their own in the opcode table. -/
def ownRowAddress (a : Nat) : Bool :=
  (0x01 ≤ a && a ≤ 0x05) || a == 0x08 || (0x0A ≤ a && a ≤ 0x11) || (0x20 ≤ a && a ≤ 0x4A)
    || a == 0x4E || a == 0x50 || a == 0x51 || a == 0x5A || (0x61 ≤ a && a ≤ 0x68)

/-- A command is well formed when its operands name what its row says and not another row. -/
def wellFormed : Instr → Bool
  | .badCommand v => !commandCodes.contains v
  | .rowFieldWrite k v => k != 0 || v.extractLsb' 0 2 == 0
  | .registerWrite a _ => !ownRowAddress a.toNat
  | .tick | .start _ _ | .stop _ _ | .tbConfig _ | .timeHiWrite _ | .timeLoWrite _ | .timeLoRead
  | .expiryService _ | .insert | .insertService _ | .cancel | .cancelService _ | .retime
  | .retimeService _ | .cancelTag | .cancelTagService _ | .query | .queryService _ | .head
  | .headService _ | .engineReset | .engineResetService _ | .lineSet | .groupStart | .groupStop
  | .trip | .release | .tripPinFall _ | .purge _ _ | .guardEnd _ | .inputChange _ _
  | .filterSample _ | .reactionSchedule _ | .reactionCancelTag _ | .arm | .disarm | .rearm
  | .batchInsert | .batchCancel | .batchRetime | .batchCommit | .commitEntryAnswer
  | .batchDiscard | .batchApply _ | .heldBatchAnswer | .parameterWrite _ _ | .lineCfgWrite _ _
  | .pairCfgWrite _ _ | .groupCfgWrite _ _ | .statusViewSelect _ _ | .inCfgWrite _ _
  | .filterIntWrite _ | .capPop | .capStatWrite | .capThWrite _ | .rptPop | .rptStatWrite
  | .rptThWrite _ | .reactStatWrite | .flagsWrite _ | .irqEnWrite _ | .deviceReset
  | .sourceEvent _ | .settledLevelFollowsPin _ _ | .tripPinRise _ => true

end Sys2Proof
end

