-- ==== Sys2Proof/Safety.lean ====
section
/-! DEFINITION. What claims about the part are stated in: the invariants the spec gives its blocks, and
the short forms of a refused write and of a completed command. -/

namespace Sys2Proof.Machine

/-! ## Short forms for statements -/

/-- The rows that stand for an agenda service, with their part left open (log 2). -/
def serviceRows : List (ServicePart → Instr) :=
  [.expiryService, .insertService, .cancelService, .retimeService, .cancelTagService, .queryService,
   .headService, .engineResetService, .purge 0, .purge 1, .purge 2, .purge 3, .reactionSchedule,
   .reactionCancelTag, .batchApply]

/-- A state after a refused write (R195): REJECT holds the reason and the word address, BUS_REJECT is
set, nothing else changes. -/
def refusedWrite (reason : RejectReason) (address : BitVec 7) (s : State) : State :=
  { s with irq :=
    { s.irq with
      flags := { s.irq.flags with busReject := true }
      reject := some { reason := reason, address := address } } }

/-- A state after the acceptance of a command code and its completion in the same event (R173, R175):
CMD holds the code, RESULT the result, CMD_DONE is set, the port is READY, no result word is written. -/
def answeredAtOnce (code : Word) (result : ResultCode) (s : State) : State :=
  { s with
    port := { s.port with cmd := code, waiting := false, result := result, held := none }
    irq := { s.irq with flags := { s.irq.flags with cmdDone := true } } }

/-- A state after the acceptance of an agenda command (R58, R173): CMD holds the code, RESULT is NONE, the
port is WAITING and the host claim is raised. -/
def acceptedForAgenda (code : Word) (s : State) : State :=
  { s with
    port := { s.port with cmd := code, result := .none, waiting := true }
    arbiter := { s.arbiter with host := true } }

/-- A state after the completion of the command in progress (R175): these result words from RES1 on,
RESULT, CMD_DONE, READY. -/
def posted (result : ResultCode) (words : List Word) (s : State) : State :=
  { s with
    port :=
      { s.port with
        waiting := false, result := result, res := writeRes words s.port.res, held := none }
    irq := { s.irq with flags := { s.irq.flags with cmdDone := true } } }

/-- A state after the host claim's service has ended: the claim waits no more and the agenda is IDLE
(R52, R53). -/
def hostServed (s : State) : State :=
  { s with arbiter := { s.arbiter with host := false, activity := none } }

/-- The arbiter would grant the host claim now, and the command in progress has this code (R52, R58). -/
def hostGranted (code : Word) (s : State) : Prop := nextClaim s = some .host ∧ s.port.cmd = code

/-- The state after a command; the state itself where it would fault or be refused. -/
def afterCommand (c : Instr) (s : State) : State :=
  match exec c s with
  | .next t => t
  | .fault _ => s
  | .refused _ => s

/-! ## What a service leaves (R39, R41, R43, R48) -/

/-- The entry acts now, the others of the agenda being those of `a`, and all follows that follows an act in
an expiry service (R27 to R35, R39): the agenda, the lines, the reports and the batch are those that its
act leaves. -/
structure ActsNow (e : Entry) (a : Agenda) (s t : State) : Prop where
  agenda : t.agenda = (act e s.timebase.time a).1
  lines : t.lines = (runTasks (act e s.timebase.time a).2 s).lines
  reports : t.reports = (runTasks (act e s.timebase.time a).2 s).reports
  rptLost : t.irq.flags.rptLost = (runTasks (act e s.timebase.time a).2 s).irq.flags.rptLost
  batch : t.batch = (runTasks (act e s.timebase.time a).2 s).batch
  batchEnd : t.irq.flags.batchEnd = (runTasks (act e s.timebase.time a).2 s).irq.flags.batchEnd
  apply : t.arbiter.apply = (runTasks (act e s.timebase.time a).2 s).arbiter.apply
  timebase : t.timebase = s.timebase
  groups : t.groups = s.groups
  capture : t.capture = s.capture
  pins : t.pins = s.pins

/-- These records are offered to the report queue, in order, and no other: each is kept while there is room
and else lost and counted (R165, R166). -/
structure Offered (rs : List Report) (s t : State) : Prop where
  queue : t.reports.queue = s.reports.queue ++ rs.take (64 - s.reports.queue.length)
  lost : s.reports.lost ≤ 255 →
    t.reports.lost = min 255 (s.reports.lost + (rs.length - (64 - s.reports.queue.length)))
  rptLost : t.irq.flags.rptLost =
    (s.irq.flags.rptLost || decide (64 - s.reports.queue.length < rs.length))
  threshold : t.reports.threshold = s.reports.threshold

/-- The pulses of these entries closed, in order: an INACTIVE request for each PULSE in RETURN (R41). -/
def closePulses (l : List Entry) (s : State) : State :=
  l.foldl (fun u e =>
    match e.job with
    | .pulse n _ .returnAct => (request n .inactive u).2
    | _ => u) s

/-- The record of an act or an ending of an entry, taken now (R33). -/
def recordNow (e : Entry) (kind : ReportKind) (final : Bool) (due : Time) (missed : Nat) (now : Time) :
    Report where
  kind := kind
  final := final
  origin := e.origin
  handle := some e.handle
  tag := e.tag
  line := jobLine e.job
  due := due
  taken := now
  missed := missed

/-- Those of these records that a report option asks for (R33). -/
def asked (o : ReportOption) (rs : List Report) : List Report :=
  match o with
  | .none => []
  | .final => rs.filter fun r => r.final
  | .every => rs

/-- The records of this kind that these entries' options ask for, at their removal now (R33, R42, R48). -/
def removalRecords (kind : ReportKind) (l : List Entry) (s : State) : List Report :=
  (l.filter (fun e => e.option != .none)).map fun e => recordNow e kind true e.due e.missed s.timebase.time

/-- The batch after the departure of its watched entry: ABANDONED, the boundary kept (R149, log 24). -/
def abandonedBatch (b : BatchUnit) : BatchUnit :=
  { b with watch := none, state := .abandoned, reason := some .boundaryGone, failing := 0 }

/-- Every entry that `p` holds of is removed in list order, and no other: the slots join the free queue's
tail, the pulses in RETURN are closed, the records are offered, and a batch that watches one of the entries is
ABANDONED, its boundary kept (log 24); nothing else of the agenda, the reports and the batch changes (R34,
R41, R42, R43, R48, R149, R165, R166). -/
structure RemovedWhere (p : Entry → Bool) (kind : ReportKind) (s t : State) : Prop where
  agenda : t.agenda = { s.agenda with
    list := s.agenda.list.filter (fun e => !p e)
    free := s.agenda.free ++ (s.agenda.list.filter p).map (fun e => e.handle.slot) }
  records : Offered (removalRecords kind (s.agenda.list.filter p) s) s t
  lines : t.lines = (closePulses (s.agenda.list.filter p) s).lines
  watched : ∀ e ∈ s.agenda.list, p e = true → s.batch.watch = some e.handle →
    t.batch = abandonedBatch s.batch ∧ t.irq.flags.batchEnd = true
  notWatched : (∀ e ∈ s.agenda.list, p e = true → s.batch.watch ≠ some e.handle) →
    t.batch = s.batch ∧ t.irq.flags.batchEnd = s.irq.flags.batchEnd
  timebase : t.timebase = s.timebase
  capture : t.capture = s.capture
  pins : t.pins = s.pins

/-! ## What an expiry service leaves (R27 to R36) -/

/-- The request of an entry's next act; none for a MARK (R27 to R30). -/
def requestOf : Job → Option (Fin 16 × Request)
  | .drive l r => some (l, r)
  | .pulse l _ .assertAct => some (l, .active)
  | .pulse l _ .returnAct => some (l, .inactive)
  | .mark => none

/-- The line unit after the request of an act (R27 to R30). -/
def linesAfterAct (j : Job) (s : State) : LineUnit :=
  match requestOf j with
  | some (l, r) => (request l r s).2.lines
  | none => s.lines

/-- The report kind of an act with this due, done now, by the answer and the group's state (R27, R28). -/
def kindOfAct (j : Job) (due : Time) (s : State) : ReportKind :=
  let onTime : ReportKind := if due = s.timebase.time then .fired else .late
  match requestOf j with
  | some (l, r) =>
    match (request l r s).1 with
    | .deferred => .deferred
    | .blocked => .blocked
    | .applied => if s.groups[groupOf l].state = .tripped then .suppressed else onTime
  | none => onTime

/-- The slot of an entry that is out of the list joins the free queue's tail (R34). -/
def ended (e : Entry) (a : Agenda) : Agenda := { a with free := a.free ++ [e.handle.slot] }

/-- The entry at a repetition due at `due`: anchored there, a PULSE back in ASSERT, and with this missed count,
or with 0 where the record of its act has been offered (R31, R33). -/
def atNext (e : Entry) (due : Time) (r : Repetition) (missed : Nat) : Entry :=
  { e with
    due := due, anchor := due, repetition := r
    job := (match e.job with | .pulse l w _ => .pulse l w .assertAct | j => j)
    missed := if e.option = .every then 0 else missed }

/-- From a late due, the first repetition that is not late is `k` periods on (R32). -/
structure SkipsTo (due : Time) (period k : Nat) (now : Time) : Prop where
  late : ∀ j < k, isLate (due + ticks (j * period)) now = true
  reached : lead (due + ticks (k * period)) now < period

/-- What follows an act, of this report kind, that completes a repetition of an entry that is out of the list
of `a` (R31 to R34): the agenda `b` and the records `rs` of the act and of an ending of its own. The last
repetition ends the entry, and the act's record is final. A next repetition that is not late is placed, the
count one less; where it is late, DROP ends the entry with a DROPPED record of the late due, and FIRE skips
`k` repetitions, counted as missed, to the first that is not late, or ends the entry by the act where a count
leaves none. -/
def Follows (e : Entry) (kind : ReportKind) (now : Time) (a b : Agenda) (rs : List Report) : Prop :=
  let ends : Nat → Prop := fun missed =>
    b = ended e a ∧ rs = asked e.option [recordNow e kind true e.due missed now]
  let goesOn : Time → Repetition → Nat → Prop := fun due r missed =>
    b = { a with list := placeIn (atNext e due r missed) a.list } ∧
      rs = asked e.option [recordNow e kind false e.due missed now]
  let dropped : Time → Prop := fun due =>
    b = ended e a ∧ rs = asked e.option
      [recordNow e kind false e.due e.missed now,
       recordNow e .dropped true due (if e.option = .every then 0 else e.missed) now]
  (e.repetition = .oneShot → ends e.missed) ∧
  (∀ p, e.repetition = .counted p 1 → ends e.missed) ∧
  (∀ p, e.repetition = .endless p → 1 ≤ p → p ≤ 2147483647 →
    let next := e.anchor + ticks p
    (isLate next now = false → goesOn next (.endless p) e.missed) ∧
    (isLate next now = true → e.late = .drop → dropped next) ∧
    (isLate next now = true → e.late = .fire → ∃ k, SkipsTo next p k now ∧
      goesOn (next + ticks (k * p)) (.endless p) (min 65535 (e.missed + k)))) ∧
  (∀ p c, e.repetition = .counted p c → 2 ≤ c → 1 ≤ p → p ≤ 2147483647 →
    let next := e.anchor + ticks p
    (isLate next now = false → goesOn next (.counted p (c - 1)) e.missed) ∧
    (isLate next now = true → e.late = .drop → dropped next) ∧
    (isLate next now = true → e.late = .fire → ∃ k, SkipsTo next p k now ∧
      (k < c - 1 →
        goesOn (next + ticks (k * p)) (.counted p (c - 1 - k)) (min 65535 (e.missed + k))) ∧
      (c - 1 ≤ k → ends (min 65535 (e.missed + (c - 1))))))

/-- The agenda, the lines, the reports, the batch and its claim may change, and of the flags RPT_LOST and
BATCH_END; nothing else does, and the agenda is IDLE (R36, R53). -/
def onlyExpiryEffects (s t : State) : Prop :=
  t = { s with
    agenda := t.agenda, lines := t.lines, reports := t.reports, batch := t.batch
    arbiter := { s.arbiter with activity := none, apply := t.arbiter.apply }
    irq := { s.irq with flags := { s.irq.flags with
      rptLost := t.irq.flags.rptLost, batchEnd := t.irq.flags.batchEnd } } }

/-- Batch, apply claim and BATCH_END stand. -/
def batchStands (s t : State) : Prop :=
  t.batch = s.batch ∧ t.arbiter.apply = s.arbiter.apply ∧ t.irq.flags.batchEnd = s.irq.flags.batchEnd

/-- The entry has made a boundary act: where it is watched, the watch ends and the batch apply claim is raised,
and the batch is not ABANDONED (R35, R149). -/
structure BoundaryActed (h : Handle) (s t : State) : Prop where
  watched : s.batch.watch = some h → t.batch = { s.batch with watch := none } ∧
    t.arbiter.apply = true ∧ t.irq.flags.batchEnd = s.irq.flags.batchEnd
  notWatched : s.batch.watch ≠ some h → batchStands s t

/-- The entry has left the agenda without a boundary act: where it is watched, the batch is ABANDONED, its
boundary kept (R35, R149, log 24). -/
structure BoundaryGone (h : Handle) (s t : State) : Prop where
  watched : s.batch.watch = some h → t.batch = abandonedBatch s.batch ∧
    t.arbiter.apply = s.arbiter.apply ∧ t.irq.flags.batchEnd = true
  notWatched : s.batch.watch ≠ some h → batchStands s t

/-! ## The register window (R192 to R194) -/

/-- The words that have no register (R192). -/
def wordsWithoutRegister : List (BitVec 7) :=
  [0x1E, 0x1F, 0x4F, 0x5B, 0x5C, 0x5D, 0x5E, 0x5F, 0x69, 0x6A, 0x6B, 0x6C, 0x6D, 0x6E, 0x6F,
   0x78, 0x79, 0x7A, 0x7B, 0x7C, 0x7D, 0x7E, 0x7F]

/-- The words of access type R (R194). -/
def readOnlyWords : List (BitVec 7) :=
  [0x00, 0x06, 0x07, 0x09, 0x12, 0x13, 0x14, 0x15, 0x16, 0x17, 0x18, 0x19, 0x1A, 0x1D,
   0x4B, 0x4C, 0x4D, 0x52, 0x53, 0x54, 0x55, 0x56, 0x57, 0x58, 0x59, 0x70, 0x72, 0x73, 0x74, 0x75,
   0x76, 0x77]

/-- What a read returns after device reset (R194), for the words whose value does not come from a pin. -/
def resetWord (a : BitVec 7) : Word :=
  if a = 0x00 then 0x1608 else if a = 0x1A then 0x0100
  else if a = 0x48 ∨ a = 0x49 ∨ a = 0x50 then 0x0001 else 0x0000

/-- The flag at a bit of FLAGS (the table of R196). -/
def flagAt (f : Flags) (n : Fin 11) : Bool :=
  match n with
  | 0 => f.cmdDone
  | 1 => f.batchEnd
  | 2 => f.trip[0]
  | 3 => f.trip[1]
  | 4 => f.trip[2]
  | 5 => f.trip[3]
  | 6 => f.capLost
  | 7 => f.rptLost
  | 8 => f.reactLost
  | 9 => f.poolLow
  | 10 => f.busReject

/-- The fields of a control word in their places (R199). -/
def controlNumber (line action late option : Nat) : Nat := line + 16 * action + 128 * late + 256 * option

/-- The bits of ROW0 to ROW6 that fields have (R205). -/
def rowMask (k : Fin 7) : Word := if k = 0 ∨ k = 2 then 0x03FF else 0xFFFF

/-- A value that a field write of ROW0 to ROW6 may carry: no code that names nothing, a delay's high half
of at most 255, and in ROW0 the control NONE (R129, R130, R205). -/
def rowValueOk (k : Fin 7) (v : Word) : Bool :=
  if k = 0 then v.toNat % 4 = 0 && v.toNat / 32 % 4 != 3 && v.toNat / 128 % 4 != 3
  else if k = 2 then decide (v.toNat / 16 % 8 ≤ 4) && v.toNat / 256 % 4 != 3
  else if k = 4 then decide (v.toNat % 4096 ≤ 255)
  else true

/-- The parameters of an INSERT or a BATCH_INSERT pass the checks of R178. -/
def insertParamsOk (p : Vector Word 8) : Bool :=
  let action := p[7].toNat / 16 % 8
  let period := p[2].toNat + 65536 * p[3].toNat
  decide (action ≤ 4) && decide (p[7].toNat / 256 % 4 ≤ 2) && decide (period ≤ 2147483647)
    && (p[5].toNat = 0 || period != 0)
    && (action != 3 || (p[4].toNat != 0 && (period = 0 || decide (p[4].toNat < period))))

/-! ## Trip requests (R91 to R93) -/

/-- A group after a trip request with this cause: a trip entry in RUN, a cause added in TRIPPED, nothing
in OFF (R91, R92, R93). -/
def afterTripRequest (c : Cause) (now : Time) (x : Group) : Group :=
  match x.state with
  | .off => x
  | .tripped => { x with causes := addCause c x.causes }
  | .run =>
    { x with
      state := .tripped, causes := addCause c noCauses, firstCause := some c, tripTime := now
      purgePending := x.purgePending || decide (x.policy = .purge) }

/-- One trip request with this cause is taken by each group named and by no other: the group answers by its
state; a trip entry, which is the answer in RUN, sets the group's flag, drops the deferrals of its pairs and
under PURGE raises its purge claim. No intended level, other claim or other block changes (R91, R92, R93). -/
structure TripRequests (named : Fin 4 → Bool) (c : Cause) (s t : State) : Prop where
  groups : ∀ g : Fin 4, t.groups[g] =
    if named g then afterTripRequest c s.timebase.time s.groups[g] else s.groups[g]
  flags : ∀ g : Fin 4, t.irq.flags.trip[g] =
    (s.irq.flags.trip[g] || (named g && decide (s.groups[g].state = .run)))
  purges : ∀ g : Fin 4, t.arbiter.purge[g] =
    (s.arbiter.purge[g] || (named g && decide (s.groups[g].state = .run) &&
      decide (s.groups[g].policy = .purge)))
  deferrals : ∀ p : Fin 8, t.lines.pairs[p] =
    if named (groupOfPair p) && decide (s.groups[groupOfPair p].state = .run) then
      { s.lines.pairs[p] with deferral := none }
    else s.lines.pairs[p]
  levels : t.lines.lines = s.lines.lines
  activity : t.arbiter.activity = s.arbiter.activity
  apply : t.arbiter.apply = s.arbiter.apply
  host : t.arbiter.host = s.arbiter.host
  agenda : t.agenda = s.agenda
  timebase : t.timebase = s.timebase
  capture : t.capture = s.capture
  batch : t.batch = s.batch
  reports : t.reports = s.reports

/-! ## The agenda (R15, R18 to R21, R24) -/

/-- Every slot of an agenda is either once in the free queue or in exactly one pending entry, and every
pending entry's generation is its slot's (R18, R19, R20). -/
structure SlotsOk (a : Agenda) : Prop where
  partition : (a.free ++ a.list.map (fun e => e.handle.slot)).Perm allSlots
  current : ∀ e ∈ a.list, e.handle.gen = a.gens[e.handle.slot.toFin]

/-- The slots are well kept in the agenda as the last completed service left it, and in the one that the
service under way will leave (R18, R53). -/
structure SlotInv (s : State) : Prop where
  now : SlotsOk s.agenda
  served : ∀ v, s.arbiter.activity = some v → SlotsOk v.after

/-- A repetition's period is 1..2147483647 and its count 1..65535, where present (R15). -/
def repetitionOk : Repetition → Prop
  | .oneShot => True
  | .endless p => 1 ≤ p ∧ p ≤ Config.horizon
  | .counted p c => 1 ≤ p ∧ p ≤ Config.horizon ∧ 1 ≤ c ∧ c ≤ 65535

/-- A PULSE has a width of 1..65535, less than its period where it has one (R15, R16). -/
def jobOk (j : Job) (r : Repetition) : Prop :=
  match j with
  | .drive _ _ => True
  | .mark => True
  | .pulse _ w _ => 1 ≤ w ∧ w ≤ 65535 ∧ (hasPeriod r = true → w < periodOf r)

/-- An insertion is valid (R16), and its PULSE is in phase ASSERT (R17). -/
def insertionOk (i : Insertion) : Prop :=
  jobOk i.job i.repetition ∧ repetitionOk i.repetition ∧ inReturn i.job = false

/-- The anchor of an entry: its due, or its due less the width for a PULSE in RETURN (R15, R29). -/
def anchorOk (e : Entry) : Prop :=
  match e.job with
  | .drive _ _ => e.anchor = e.due
  | .mark => e.anchor = e.due
  | .pulse _ _ .assertAct => e.anchor = e.due
  | .pulse _ w .returnAct => e.due = e.anchor + ticks w

/-- An entry's fields are as R15 gives them. -/
def entryOk (e : Entry) : Prop :=
  jobOk e.job e.repetition ∧ repetitionOk e.repetition ∧ anchorOk e ∧ e.missed ≤ Config.missedMax

/-- A template is a valid insertion: a PULSE has a width (R127). -/
def templateOk (t : Template) : Prop := t.action = .pulse → t.width ≠ 0

/-- A pending SCHEDULE record's template is valid (R127, R135). -/
def recordOk (r : PendingReaction) : Prop := r.kind = .schedule → templateOk r.template

/-- An edit's insertion is valid (R144, R146). -/
def editOk : Edit → Prop
  | .insert i => insertionOk i
  | .cancel _ => True
  | .retime _ _ => True

/-- A row that is not OFF passes the check of its ARM (R127, R130). -/
def rowOk (r : Row) : Prop := r.state ≠ .off → armRefused r = false

/-- Every entry is as R15 gives it, also in the agenda that the service under way will leave, and so is
every insertion on its way to the agenda: staged edits, rows that can match, and pending reaction records. -/
structure EntryInv (s : State) : Prop where
  entries : ∀ e ∈ s.agenda.list, entryOk e
  edits : ∀ e ∈ s.batch.staging, editOk e
  rows : ∀ k : Fin 16, rowOk s.reactions.rows[k]
  records : ∀ r ∈ s.reactions.fifo, recordOk r
  served : ∀ v, s.arbiter.activity = some v → ∀ e ∈ v.after.list, entryOk e

/-! ## Lines and pairs (R66, R70, R76, R78) -/

/-- A pair is as R66, R70, R76 and R78 give it, `a` and `b` being its two lines. With the interlock on,
the lines are not both ACTIVE and not both of safe level ACTIVE; with it off there is no guard and no
deferral. In GUARD both lines are INACTIVE and the end time is at most the greatest guard ahead. A
deferral is of the partner of the off-line, with the guard's end time. -/
structure PairOk (a b : Line) (p : Pair) (now : Time) : Prop where
  guardRange : p.guardTicks ≤ Config.guardMax
  notBothActive : p.interlock = true → ¬ (a.active = true ∧ b.active = true)
  notBothSafe : p.interlock = true → ¬ (a.safe = .active ∧ b.safe = .active)
  offIsIdle : p.interlock = false → p.running = none ∧ p.deferral = none
  guardQuiet : ∀ w, p.running = some w → a.active = false ∧ b.active = false
  guardNear : ∀ w, p.running = some w → (w.endTime - now).toNat ≤ Config.guardMax
  deferralMatches : ∀ d, p.deferral = some d →
    p.running = some { side := otherSide d.side, endTime := d.endTime }

/-- Every pair is as R66, R70, R76 and R78 give it. -/
def PairInv (s : State) : Prop :=
  ∀ p : Fin 8,
    PairOk s.lines.lines[lineOn p 0] s.lines.lines[lineOn p 1] s.lines.pairs[p] s.timebase.time

/-! ## Groups (R55, R86, R96) -/

/-- A task that every kind of service may have: a request, an offer, a notice of the agenda's. -/
def agendaTask : Task → Prop
  | .request _ _ _ | .offer _ | .allocated _ | .acted _ | .gone _ => True
  | .purged _ _ | .resetMoment | .endBatch _ | .complete _ _ => False

/-- What a service of this claim ends with: the number handed to the group unit, the batch's ending, the
completion of the command, nothing (R48, R155, R175). -/
def endsAs : Claim → List Task → Prop
  | .expiry, ks => ks = []
  | .reaction, ks => ks = []
  | .purge g, ks => ∃ n, ks = [.purged g n]
  | .apply, ks => ∃ e, ks = [.endBatch e]
  | .host, ks => ∃ code words, ks = [.complete code words] ∨ ks = [.resetMoment, .complete code words]

/-- The service under way has still to make requests, offers and notices, and then what its kind ends
with. -/
def TodoOk (s : State) : Prop :=
  ∀ v, s.arbiter.activity = some v →
    ∃ ks last, v.todo = ks ++ last ∧ (∀ k ∈ ks, agendaTask k) ∧ endsAs v.claim last

/-- The purge service of a group is under way. -/
def purging (g : Fin 4) (s : State) : Prop := ∃ v, s.arbiter.activity = some v ∧ v.claim = .purge g

/-- A group record is as R55, R86 and R96 give it: the cause set is empty unless TRIPPED, and in TRIPPED
it holds a cause and the first cause is known; purge-pending is set exactly while the group's purge
claim waits or is served, and then the group is TRIPPED. -/
structure GroupOk (g : Fin 4) (s : State) : Prop where
  noCause : s.groups[g].state ≠ .tripped → s.groups[g].causes = noCauses
  someCause : s.groups[g].state = .tripped →
    s.groups[g].causes ≠ noCauses ∧ s.groups[g].firstCause ≠ none
  pendingTripped : s.groups[g].purgePending = true → s.groups[g].state = .tripped
  claimPending : s.arbiter.purge[g] = true → s.groups[g].purgePending = true
  servedPending : purging g s → s.groups[g].purgePending = true ∧ s.arbiter.purge[g] = false
  pendingClaim : s.groups[g].purgePending = true → s.arbiter.purge[g] = true ∨ purging g s

/-- Every group record is as R55, R86 and R96 give it, and a purge hands its number over at its end. -/
def GroupInv (s : State) : Prop := TodoOk s ∧ ∀ g : Fin 4, GroupOk g s

/-! ## Capacities and ranges (R116, R117, R120, R135, R136, R144, R165, R166, R169 and others) -/

/-- An input's filter is 0 or 2..8, its run count never passes it, and a disabled input has no run (R107,
R108, R111). -/
def inputOk (i : Input) : Prop :=
  filterOk i.filter = true ∧ i.runCount ≤ i.filter ∧ (i.enable = false → i.runCount = 0)

/-- Every queue within its capacity, every lost counter within 255, every ranged register in range. -/
structure CapacityInv (s : State) : Prop where
  captures : s.capture.queue.length ≤ Config.captureCapacity
  captureLost : s.capture.lost ≤ Config.lostMax
  captureThreshold : 1 ≤ s.capture.threshold ∧ s.capture.threshold ≤ Config.captureCapacity
  filterInt : 1 ≤ s.capture.filterInt ∧ s.capture.filterInt ≤ Config.filterIntMax
  samplePhase : s.capture.samplePhase < s.capture.filterInt
  inputs : ∀ n : Fin 8, inputOk s.capture.inputs[n]
  reports : s.reports.queue.length ≤ Config.reportCapacity
  reportLost : s.reports.lost ≤ Config.lostMax
  reportThreshold : 1 ≤ s.reports.threshold ∧ s.reports.threshold ≤ Config.reportCapacity
  fifo : s.reactions.fifo.length ≤ Config.fifoCapacity
  reactionLost : s.reactions.lost ≤ Config.lostMax
  staging : s.batch.staging.length ≤ Config.stagingCapacity
  reserve : s.agenda.reserve ≤ Config.reserveMax
  poolLow : s.agenda.poolLow ≤ Config.poolLowMax
  phase : s.timebase.running = true → s.timebase.phase < prescaleOf s.timebase

/-! ## The command port (R58, R172, R173, R176) -/

/-- The codes of the commands that go to the agenda (R58). -/
def agendaCodes : List Word := [0x01, 0x02, 0x03, 0x04, 0x05, 0x06, 0x3F]

/-- The codes of the commands that go to the batch unit (R58). -/
def batchCodes : List Word := [0x20, 0x21, 0x22, 0x23, 0x24]

/-- A host service is under way. -/
def hostServing (s : State) : Prop := ∃ v, s.arbiter.activity = some v ∧ v.claim = .host

/-- The port is WAITING exactly while its command waits at the arbiter, is served, or is held by the
batch unit, one of the three; RESULT is NONE then, and CMD holds a code of that owner; the host's service
ends with the completion (R58, R172 to R176). -/
structure PortInv (s : State) : Prop where
  waitingFor : s.port.waiting = true → s.arbiter.host = true ∨ hostServing s ∨ s.port.held ≠ none
  claimWaits : s.arbiter.host = true → s.port.waiting = true ∧ s.port.cmd ∈ agendaCodes
  servingWaits : hostServing s → s.port.waiting = true ∧ s.port.cmd ∈ agendaCodes
  heldWaits : s.port.held ≠ none → s.port.waiting = true ∧ s.port.cmd ∈ batchCodes
  claimAlone : s.arbiter.host = true → ¬ hostServing s ∧ s.port.held = none
  servingAlone : hostServing s → s.port.held = none
  noResultYet : s.port.waiting = true → s.port.result = .none
  completes : TodoOk s

/-! ## The batch (R56, R143, R147 to R150) -/

/-- The batch apply service is under way. -/
def applying (s : State) : Prop := ∃ v, s.arbiter.activity = some v ∧ v.claim = .apply

/-- The batch is as R143 and R147 to R150 give it: EMPTY holds no edit and the other states hold some;
a waiting or served apply claim, or a watched entry, means ARMED; an ARMED batch is in exactly one of
those conditions; a watched entry is the boundary and is pending, and a service under way either leaves it
pending or has a notice of it still to give, or resets the batch; a served apply ends the batch. -/
structure BatchInv (s : State) : Prop where
  emptyStaging : s.batch.state = .empty ↔ s.batch.staging = []
  claimArmed : s.arbiter.apply = true → s.batch.state = .armed ∧ ¬ applying s
  applyingArmed : applying s → s.batch.state = .armed
  watchArmed : ∀ h, s.batch.watch = some h →
    s.batch.state = .armed ∧ s.batch.boundary = some (.entry h) ∧ s.arbiter.apply = false ∧
      ¬ applying s ∧ isPending h s.agenda = true
  watchServed : ∀ h v, s.batch.watch = some h → s.arbiter.activity = some v →
    isPending h v.after = true ∨ .acted h ∈ v.todo ∨ .gone h ∈ v.todo ∨ .resetMoment ∈ v.todo
  armedWaits : s.batch.state = .armed →
    s.arbiter.apply = true ∨ applying s ∨ s.batch.watch ≠ none
  resultsEnd : s.batch.results ≠ [] → s.batch.state = .applied ∨ s.batch.state = .failed
  ends : TodoOk s

/-! ## Order of the list (R24) -/

/-- Every time of a list lies within one span of 2147483648 consecutive values from `base` (R12, R24). -/
def withinSpan (base : Time) (ts : List Time) : Prop :=
  ∀ t ∈ ts, (t - base).toNat ≤ Config.horizon

/-- Entries in non-decreasing order of due under "later than" (R24). -/
def dueOrdered (l : List Entry) : Prop :=
  l.Pairwise (fun x y => laterThan x.due y.due = false)

end Sys2Proof.Machine
end

