-- ==== Sys2Proof/Certificates/Slice0/Obligations.lean ====
section
/-! DEFINITION. The statements about the SQ-1608 that are put to the provers, in the order of
OBLIGATIONS.json. Each docstring names the rules a statement rests on. -/

section Statements

open Sys2Proof Sys2Proof.Machine

/-! ## The step -/

/-- A step takes the command at the front of the queue and runs it on the rest (the model's queue). -/
def Obligations.StepRunsFrontCommand : Prop :=
  ∀ (c : Instr) (rest : List Instr) (s : State),
    step { s with pending := c :: rest } = exec c { s with pending := rest }

/-- On an empty queue a step is one core-clock period (the model's choice, logs 1, 13, 19, 31 and 33): the queue,
the read data and the pins' levels stand. A STOPPED timebase stands; one that counts the core clock takes one
source event; one that counts TCLK takes one where the sample is the second high one after two low ones, and the
count of samples goes on by R1. Every guard whose end time TIME has then ended, with its deferred line ACTIVE (a
guard end that was left at the TIME before is taken first, log 4). Then each trip pin takes one sample of R89 at
its level, with the effects of a fall that is seen. The sample phase goes on by 1, and to 0 where it reaches
FILTER_INT; then each input in ascending order takes one sample at its pin's level, a filtered one advancing its
run at such a moment and only there. At the period's end no claim waits at an IDLE agenda and no held command
waits for its answer (R52, R148). A service under way with more than one task left goes on by one, and the agenda
others read stands (R53). Where the agenda was IDLE and nothing was held, a claim that waits is granted with TIME
and RESERVE as they stand, nothing but it and the lines changes by that, and where the head is due or late the
request of its act is made in the same period: an act of slip 0 changes its pin at the tick it was due (R1, R2,
R7, R52, R53, R68, R79, R89, R109, R110, R111, R113). -/
def Obligations.EmptyQueueStepIsOneClockPeriod : Prop :=
  ∀ s : State, s.pending = [] →
    let counted : Timebase :=
      if s.timebase.phase + 1 < s.timebase.prescaleField.toNat + 1 then
        { s.timebase with phase := s.timebase.phase + 1 }
      else { s.timebase with time := s.timebase.time + 1, phase := 0 }
    let x := s.pins.tclkSamples
    let edge : Bool := s.pins.tclk && decide (2 ≤ x.before ∧ x.after = 1)
    let counts : Bool := s.timebase.running &&
      (match s.timebase.source with | .internal => true | .external => edge)
    let base : Timebase := if counts then counted else s.timebase
    let guardEnded : Fin 8 → Bool := fun p => (match s.lines.pairs[p].running with
      | some d => d.endTime == s.timebase.time || d.endTime == base.time
      | none => false)
    let deferred : Fin 16 → Bool := fun l => (match s.lines.pairs[pairOf l].deferral with
      | some d => d.side == sideOf l
      | none => false)
    let timed : State := { s with
      timebase := base
      pins := { s.pins with tclkSamples :=
        if s.pins.tclk then { x with after := min 2 (x.after + 1) }
        else if x.after = 0 then { x with before := min 2 (x.before + 1) }
        else { before := 1, after := 0 } }
      lines :=
        { lines := Vector.ofFn fun l : Fin 16 => { s.lines.lines[l] with
            active := s.lines.lines[l].active || guardEnded (pairOf l) && deferred l }
          pairs := Vector.ofFn fun p : Fin 8 =>
            bif guardEnded p then { s.lines.pairs[p] with running := none, deferral := none }
            else s.lines.pairs[p] } }
    let tripped : State := sampleTripPin 1 (sampleTripPin 0 timed)
    let moment : Bool := decide (s.capture.filterInt ≤ s.capture.samplePhase + 1)
    let sampled : State := (List.finRange 8).foldl
      (fun y n =>
        if moment && s.capture.inputs[n].enable && s.capture.inputs[n].filter != 0 then
          filterStep n s.pins.inputs[n] y
        else afterCommand (.inputChange n s.pins.inputs[n]) y)
      { tripped with capture :=
        { s.capture with samplePhase := if moment then 0 else s.capture.samplePhase + 1 } }
    ∃ t : State, step s = .next t ∧ t = arbiterMove sampled ∧
      t.pending = [] ∧ t.dataOut = s.dataOut ∧ t.timebase = base ∧
      t.pins = { timed.pins with tripSamples := tripped.pins.tripSamples } ∧
      ((∀ v, s.arbiter.activity = some v → v.todo.head? ≠ some .resetMoment) → t.capture = sampled.capture) ∧
      (t.arbiter.activity = none → t.port.held = none ∧ nextClaim t = none) ∧
      (∀ v, s.arbiter.activity = some v → 2 ≤ v.todo.length → t.agenda = s.agenda ∧
        ∃ todo, t.arbiter.activity = some { v with todo := todo } ∧ (todo = v.todo.tail ∨
          ∃ r, todo = .offer r :: v.todo.tail)) ∧
      (s.arbiter.activity = none → s.port.held = none →
        t.agenda = s.agenda ∧ t.batch = s.batch ∧ t.reports = s.reports ∧ t.port = s.port ∧
        (∀ v, t.arbiter.activity = some v → v.taken = t.timebase.time ∧ v.reserve = s.agenda.reserve) ∧
        t = { sampled with
          arbiter := t.arbiter, lines := t.lines
          reactions := { sampled.reactions with fifo := t.reactions.fifo } } ∧
        (nextClaim sampled = none → t = sampled) ∧
        (∀ e rest, s.agenda.list = e :: rest → e.due = base.time ∨ isLate e.due base.time = true →
          t.lines = linesAfterAct e.job sampled ∧ t.reactions = sampled.reactions ∧
          ∃ v, t.arbiter.activity = some v ∧ v.claim = .expiry))

/-- Every command answers a next state, from every state, and leaves the queue to the step. That no command
ends in a fault or a refusal, inapplicable rows and ill-formed ones included, is the model's own reading and
choice (logs 3, 9 and 26). -/
def Obligations.EveryCommandAnswersNext : Prop :=
  ∀ (c : Instr) (s : State), ∃ t : State, exec c s = .next t ∧ t.pending = s.pending

/-! ## The register window -/

/-- The words of the window and its registers name each other, the words without a register are those of R192,
and a read after device reset returns what R194 lists (PIN_STAT and IN_LEVELS show pins and are left out). A
word without a register reads 0 and a write to it is refused with UNMAPPED; a write to a register of type R is
refused with READ_ONLY; a write to RESERVE, POOL_LOW_TH, ROW_SEL or BATCH_SEL is taken in its range and
refused with RANGE beyond it. A refused write does nothing but its record. In any state a read shows: in
REJECT the address and the reason of the last refused write, in CMD, P0..P7 and RES1..RES8 what the port
holds, in RESULT the code of the result, in GROUP_STAT the view selected, in BATCH_STAT, BATCH_RES and
BATCH_HANDLE the batch and the result of the edit selected, NONE and 0 where there is none, in PIN_STAT the
trip pins that are low, in INTENDED, DEFERRED and IN_LEVELS a bit for each line or input, in FREE_COUNT and
PENDING_COUNT the free queue's length and the list's; and where every counter is in its range, in CAP_STAT,
RPT_STAT and REACT_STAT the records held and the lost counter, and in each register of one number that number
(R18, R22, R23, R67, R88, R89, R109, R112, R119, R120, R128, R137, R143, R155, R168, R169, R171, R175, R192,
R193, R194, R195, R200, R202, R203). -/
def Obligations.RegisterMapReadsAndRefusals : Prop :=
  (∀ a : BitVec 7, registerAddress (registerAt a) = a) ∧
  (∀ a : BitVec 7, registerAt a = .unmapped a ↔ a ∈ wordsWithoutRegister) ∧
  (∀ a : BitVec 7, a ≠ 0x74 → a ≠ 0x77 → readWord State.reset a = resetWord a) ∧
  ∀ (s : State) (v : Word), readWord s 0x00 = 0x1608 ∧
    (let code : ResultCode → Nat := fun r => match r with
        | .none => 0 | .ok => 1 | .badCommand => 2 | .badParam => 3 | .noSlot => 4 | .reserve => 5 | .late => 6
        | .stale => 7 | .notPending => 8 | .wrongState => 9 | .stillAsserted => 10 | .purgePending => 11
        | .batchState => 12 | .batchFull => 13 | .deferred => 14 | .blocked => 15;
      (readWord s 0x09).toNat = code s.port.result ∧
      (∀ r, s.batch.results[s.batch.sel.val]? = some r →
        (readWord s 0x72).toNat = code r.outcome +
          16 * (match r.disposition with | none => 0 | some .pending => 1 | some .done => 2) ∧
        readWord s 0x73 = (match r.handle with | some h => handleWord h | none => 0))) ∧
    readWord s 0x08 = s.port.cmd ∧
    (s.agenda.free.length ≤ 256 → (readWord s 0x1A).toNat = s.agenda.free.length) ∧
    (s.agenda.list.length ≤ 256 → (readWord s 0x1D).toNat = s.agenda.list.length) ∧
    (∀ k : Fin 8, readWord s (BitVec.ofNat 7 (0x0A + k.val)) = s.port.params[k] ∧
      readWord s (BitVec.ofNat 7 (0x12 + k.val)) = s.port.res[k]) ∧
    (readWord s 0x07).toNat =
      (match s.irq.reject with
        | none => 0
        | some x => x.address.toNat + 256 * (match x.reason with
          | .unmapped => 1 | .readOnly => 2 | .cmdWaiting => 3 | .wrongState => 4 | .range => 5
          | .queueEmpty => 6)) ∧
    (CapacityInv s →
      (readWord s 0x4A).toNat = s.capture.queue.length + 256 * s.capture.lost ∧
      (readWord s 0x51).toNat = s.reports.queue.length + 256 * s.reports.lost ∧
      (readWord s 0x68).toNat = s.reactions.fifo.length + 256 * s.reactions.lost ∧
      (readWord s 0x1B).toNat = s.agenda.reserve ∧ (readWord s 0x1C).toNat = s.agenda.poolLow ∧
      (readWord s 0x48).toNat = s.capture.filterInt ∧ (readWord s 0x49).toNat = s.capture.threshold ∧
      (readWord s 0x50).toNat = s.reports.threshold ∧ (readWord s 0x60).toNat = s.reactions.sel.val ∧
      (readWord s 0x71).toNat = s.batch.sel.val) ∧
    (∀ a ∈ wordsWithoutRegister, readWord s a = 0 ∧
      exec (.registerWrite a v) s = .next (refusedWrite .unmapped a s)) ∧
    (∀ a ∈ readOnlyWords, exec (.registerWrite a v) s = .next (refusedWrite .readOnly a s)) ∧
    exec (.registerWrite 0x1B v) s = .next
      (if v.toNat ≤ 64 then { s with agenda := { s.agenda with reserve := v.toNat } }
        else refusedWrite .range 0x1B s) ∧
    exec (.registerWrite 0x1C v) s = .next
      (if v.toNat ≤ 255 then { s with agenda := { s.agenda with poolLow := v.toNat } }
        else refusedWrite .range 0x1C s) ∧
    exec (.registerWrite 0x60 v) s = .next
      (if v.toNat ≤ 15 then { s with reactions := { s.reactions with sel := Fin.ofNat 16 v.toNat } }
        else refusedWrite .range 0x60 s) ∧
    exec (.registerWrite 0x71 v) s = .next
      (if v.toNat ≤ 15 then { s with batch := { s.batch with sel := Fin.ofNat 16 v.toNat } }
        else refusedWrite .range 0x71 s) ∧
    (∀ g : Fin 4,
      let x := s.groups[g]
      let w := (readWord s (BitVec.ofNat 7 (0x3C + g.val))).toNat
      (x.view = 0 → w =
        (match x.state with | .off => 0 | .run => 1 | .tripped => 2) +
        16 * (if x.causes.pin0 then 1 else 0) + 32 * (if x.causes.pin1 then 1 else 0) +
        64 * (if x.causes.reaction then 1 else 0) + 128 * (if x.causes.host then 1 else 0) +
        256 * (match x.firstCause with
          | none => 0 | some .pin0 => 1 | some .pin1 => 2 | some .reaction => 3 | some .host => 4) +
        2048 * (if x.purgePending then 1 else 0)) ∧
      (x.view = 1 → x.lastPurgeCount ≤ 256 → w = x.lastPurgeCount) ∧
      (x.view = 2 → w = x.tripTime.toNat % 65536) ∧
      (x.view = 3 → w = x.tripTime.toNat / 65536)) ∧
    (s.batch.staging.length ≤ 16 → s.batch.failing ≤ 15 → (readWord s 0x70).toNat =
      (match s.batch.state with
        | .empty => 0 | .opened => 1 | .armed => 2 | .applied => 3 | .failed => 4 | .abandoned => 5) +
      8 * s.batch.staging.length +
      256 * (match s.batch.boundary with | some (.entry _) => 1 | some .now => 0 | none => 0) +
      512 * s.batch.failing +
      8192 * (match s.batch.reason with
        | none => 0 | some .stale => 1 | some .notPending => 2 | some .wrongState => 3 | some .late => 4
        | some .noSlot => 5 | some .reserve => 6 | some .boundaryGone => 7)) ∧
    (s.batch.results[s.batch.sel.val]? = none → readWord s 0x72 = 0 ∧ readWord s 0x73 = 0) ∧
    (readWord s 0x74).toNat =
      (if s.pins.trip[0] then 0 else 1) + 2 * (if s.pins.trip[1] then 0 else 1) ∧
    (∀ l : Fin 16, (readWord s 0x75).getLsbD l.val = s.lines.lines[l].active ∧
      ((readWord s 0x76).getLsbD l.val = true ↔
        ∃ d, s.lines.pairs[pairOf l].deferral = some d ∧ d.side = sideOf l)) ∧
    (∀ n : Fin 8, (readWord s 0x77).getLsbD n.val = s.capture.inputs[n].settled) ∧
    (readWord s 0x77).toNat < 256

/-- The layouts of handles, of times in two words and of the control word: each field stands in its
place with the codes of R199, R200 and R201, and what is written comes back; bits 15:10 of a control word are
ignored (R199, R200, R201). -/
def Obligations.ParameterLayouts : Prop :=
  (∀ h : Handle, (handleWord h).toNat = h.slot.toNat + 256 * h.gen.toNat ∧
    handleOfWord (handleWord h) = h) ∧
  (∀ w : Word, handleWord (handleOfWord w) = w) ∧
  (∀ t : Time, ofHalves (loHalf t) (hiHalf t) = t ∧ (loHalf t).toNat = t.toNat % 65536 ∧
    (hiHalf t).toNat = t.toNat / 65536) ∧
  (∀ (line : Fin 16) (a : Action) (p : LatePolicy) (o : ReportOption),
    (controlWord line.val a p o).toNat =
      controlNumber line.val (actionCode a) (lateCode p) (optionCode o) ∧
    controlLine (controlWord line.val a p o) = line ∧
    controlAction (controlWord line.val a p o) = some a ∧
    controlLate (controlWord line.val a p o) = p ∧
    controlOption (controlWord line.val a p o) = some o) ∧
  (∀ v : Word, (controlAction v = none ↔ 5 ≤ v.toNat / 16 % 8) ∧
    (controlOption v = none ↔ v.toNat / 256 % 4 = 3) ∧
    controlLine v = controlLine (v &&& 0x03FF) ∧ controlAction v = controlAction (v &&& 0x03FF) ∧
    controlLate v = controlLate (v &&& 0x03FF) ∧ controlOption v = controlOption (v &&& 0x03FF)) ∧
  [Action.active, .inactive, .toggle, .pulse, .mark].map actionCode = [0, 1, 2, 3, 4] ∧
  [LatePolicy.fire, .drop].map lateCode = [0, 1] ∧
  [ReportOption.none, .final, .every].map optionCode = [0, 1, 2] ∧
  originCode .host = 0 ∧ originCode .batch = 1 ∧ ∀ r : Fin 16, originCode (.reaction r) = 16 + r.val

/-- An insertion of valid parameters has the fields that P0..P7 hold, by their places: due, period and
count, tag, line (none for MARK), width (for PULSE alone), late policy and report option; parameters
that break a condition make none (R16, R178, R199). -/
def Obligations.InsertionFieldsOfParameters : Prop :=
  ∀ p : Vector Word 8,
    (insertParamsOk p = false → insertionOf p = none) ∧
    (insertParamsOk p = true → ∃ i : Insertion, insertionOf p = some i ∧ insertionOk i ∧
      i.due.toNat = p[0].toNat + 65536 * p[1].toNat ∧
      periodOf i.repetition = p[2].toNat + 65536 * p[3].toNat ∧
      (hasPeriod i.repetition = true ↔ periodOf i.repetition ≠ 0) ∧
      countOf i.repetition = p[5].toNat ∧ (hasCount i.repetition = true ↔ p[5].toNat ≠ 0) ∧
      i.tag = p[6] ∧ actionCode (jobAction i.job) = p[7].toNat / 16 % 8 ∧
      jobLine i.job = (if p[7].toNat / 16 % 8 = 4 then none else some (Fin.ofNat 16 (p[7].toNat % 16))) ∧
      widthOf i.job = (if p[7].toNat / 16 % 8 = 3 then p[4].toNat else 0) ∧
      lateCode i.late = p[7].toNat / 128 % 2 ∧ optionCode i.option = p[7].toNat / 256 % 4)

/-- A field write of the row window: on a row that is OFF, a value whose codes all name something is taken,
and every word of the window then reads as before but the one written, which reads what was written in the
bits that have fields; each field the word carries takes its bits by R205, and the row's other fields, its
state and last-match time, the other rows and all else stand. Any other value is refused with RANGE, and a
write to a row that is not OFF with WRONG_STATE (R129, R130, R205). -/
def Obligations.RowFieldWrites : Prop :=
  ∀ (s : State) (k : Fin 7) (v : Word), (k = 0 → v.toNat % 4 = 0) →
    let a : BitVec 7 := BitVec.ofNat 7 (0x61 + k.val)
    let old := s.reactions.rows[s.reactions.sel]
    let withRow : Row → State := fun x =>
      { s with reactions := { s.reactions with rows := s.reactions.rows.set s.reactions.sel x } }
    let n := v.toNat
    let u := old.template
    let edge : EdgeSelect → Nat := fun e => match e with | .rise => 0 | .fall => 1 | .both => 2
    let kind : RowKind → Nat := fun x => match x with | .schedule => 0 | .trip => 1 | .cancelTag => 2
    let action : Action → Nat := fun a => match a with
      | .active => 0 | .inactive => 1 | .toggle => 2 | .pulse => 3 | .mark => 4
    let option : ReportOption → Nat := fun o => match o with | .none => 0 | .final => 1 | .every => 2
    (old.state = .off → rowValueOk k v = true →
      ∃ new : Row, exec (.rowFieldWrite k v) s = .next (withRow new) ∧
        (∀ j : Fin 7, readWord (withRow new) (BitVec.ofNat 7 (0x61 + j.val)) =
          if j = k then v &&& rowMask k else readWord s (BitVec.ofNat 7 (0x61 + j.val))) ∧
        new.state = .off ∧ new.lastMatch = old.lastMatch ∧
        (k = 0 → edge new.edge = n / 32 % 4 ∧ kind new.kind = n / 128 % 4 ∧
          new = { old with
            input := Fin.ofNat 8 (n / 4), edge := new.edge, kind := new.kind, oneShot := v.getLsbD 9 }) ∧
        (k = 1 → new = { old with holdoff := v }) ∧
        (k = 2 → action new.template.action = n / 16 % 8 ∧ option new.template.option = n / 256 % 4 ∧
          new = { old with template := { u with
            line := Fin.ofNat 16 n, action := new.template.action
            late := if v.getLsbD 7 then .drop else .fire, option := new.template.option } }) ∧
        (k = 3 → new = { old with template :=
          { u with delay := BitVec.ofNat 24 (u.delay.toNat / 65536 * 65536 + n) } }) ∧
        (k = 4 → new = { old with
          template := { u with delay := BitVec.ofNat 24 (n % 4096 * 65536 + u.delay.toNat % 65536) }
          groupMask := BitVec.ofNat 4 (n / 4096) }) ∧
        (k = 5 → new = { old with template := { u with width := v } }) ∧
        (k = 6 → new = { old with template := { u with tag := v } })) ∧
    (old.state = .off → rowValueOk k v = false →
      exec (.rowFieldWrite k v) s = .next (refusedWrite .range a s)) ∧
    (old.state ≠ .off → exec (.rowFieldWrite k v) s = .next (refusedWrite .wrongState a s))

/-- The controls ARM, DISARM and REARM on the selected row, answered by its state; an ARM of a SCHEDULE
PULSE of width 0 or of a TRIP with no group is refused with RANGE. In any state a read of ROW0..ROW6 shows the
selected row's state and its fields, each in its bits (R126, R127, R128, R129, R205). -/
def Obligations.RowControls : Prop :=
  ∀ s : State,
    let r := s.reactions.rows[s.reactions.sel]
    let withRow : Row → State := fun x =>
      { s with reactions := { s.reactions with rows := s.reactions.rows.set s.reactions.sel x } }
    let bad : Prop := (r.kind = .schedule ∧ r.template.action = .pulse ∧ r.template.width = 0) ∨
      (r.kind = .trip ∧ r.groupMask = 0)
    (r.state = .off → ¬ bad →
      exec .arm s = .next (withRow { r with state := .armed, lastMatch := none })) ∧
    (r.state = .off → bad → exec .arm s = .next (refusedWrite .range 0x61 s)) ∧
    (r.state ≠ .off → exec .arm s = .next (refusedWrite .wrongState 0x61 s)) ∧
    (r.state = .off → exec .disarm s = .next s) ∧
    (r.state ≠ .off → exec .disarm s = .next (withRow { r with state := .off, lastMatch := none })) ∧
    (r.state = .spent → exec .rearm s = .next (withRow { r with state := .armed })) ∧
    (r.state ≠ .spent → exec .rearm s = .next (refusedWrite .wrongState 0x61 s)) ∧
    (readWord s 0x61).toNat =
      (match r.state with | .off => 0 | .armed => 1 | .spent => 2) + 4 * r.input.val +
      32 * (match r.edge with | .rise => 0 | .fall => 1 | .both => 2) +
      128 * (match r.kind with | .schedule => 0 | .trip => 1 | .cancelTag => 2) +
      512 * (if r.oneShot then 1 else 0) ∧
    readWord s 0x62 = r.holdoff ∧
    (readWord s 0x63).toNat = controlNumber r.template.line.val
      (match r.template.action with | .active => 0 | .inactive => 1 | .toggle => 2 | .pulse => 3 | .mark => 4)
      (match r.template.late with | .fire => 0 | .drop => 1)
      (match r.template.option with | .none => 0 | .final => 1 | .every => 2) ∧
    (readWord s 0x64).toNat = r.template.delay.toNat % 65536 ∧
    (readWord s 0x65).toNat = r.template.delay.toNat / 65536 + 4096 * r.groupMask.toNat ∧
    readWord s 0x66 = r.template.width ∧ readWord s 0x67 = r.template.tag

/-- LINE_CFG and PAIR_CFG: taken only while the group is OFF and no check refuses the value, and then each
field takes its bits by R202, and the register reads what was written in the bits that have fields. A line's
intended level stands. An interlock that is switched leaves the pair IDLE with no deferral; one that is not
switched leaves guard and deferral. Pair p is lines 2p and 2p + 1, group g lines 4g to 4g + 3 (R65, R66, R76,
R77, R202). -/
def Obligations.LineAndPairConfigWrites : Prop :=
  (∀ n : Fin 16, (pairOf n).val = n.val / 2 ∧ (groupOf n).val = n.val / 4 ∧ partnerOf n ≠ n ∧
    pairOf (partnerOf n) = pairOf n ∧ groupOfPair (pairOf n) = groupOf n ∧
    lineOn (pairOf n) (sideOf n) = n ∧ (sideOf n).val = n.val % 2) ∧
  (∀ (s : State) (n : Fin 16) (v : Word),
    let a : BitVec 7 := BitVec.ofNat 7 (0x20 + n.val)
    let bad : Prop := v.toNat / 4 % 4 = 3 ∨ (v.toNat / 4 % 4 = 1 ∧
      s.lines.pairs[pairOf n].interlock = true ∧ s.lines.lines[partnerOf n].safe = .active)
    (s.groups[groupOf n].state ≠ .off →
      exec (.lineCfgWrite n v) s = .next (refusedWrite .wrongState a s)) ∧
    (s.groups[groupOf n].state = .off → bad →
      exec (.lineCfgWrite n v) s = .next (refusedWrite .range a s)) ∧
    (s.groups[groupOf n].state = .off → ¬ bad →
      ∃ safe : SafeLevel,
        (match safe with | .inactive => 0 | .active => 1 | .float => 2) = v.toNat / 4 % 4 ∧
        (let x : Line :=
            { mode := if v.getLsbD 0 then .drive else .off
              polarity := if v.getLsbD 1 then .activeLow else .activeHigh
              safe := safe, active := s.lines.lines[n].active };
          let t : State := { s with lines := { s.lines with lines := s.lines.lines.set n x } };
          exec (.lineCfgWrite n v) s = .next t ∧ readWord t a = v &&& 0x000F))) ∧
  (∀ (s : State) (p : Fin 8) (v : Word),
    let a : BitVec 7 := BitVec.ofNat 7 (0x30 + p.val)
    let x := s.lines.lines[lineOn p 0]
    let y := s.lines.lines[lineOn p 1]
    let old := s.lines.pairs[p]
    let on : Bool := v.getLsbD 15
    let bad : Prop := 1023 < v.toNat % 2048 ∨ (on = true ∧ old.interlock = false ∧
      ((x.active = true ∧ y.active = true) ∨ (x.safe = .active ∧ y.safe = .active)))
    (s.groups[groupOfPair p].state ≠ .off →
      exec (.pairCfgWrite p v) s = .next (refusedWrite .wrongState a s)) ∧
    (s.groups[groupOfPair p].state = .off → bad →
      exec (.pairCfgWrite p v) s = .next (refusedWrite .range a s)) ∧
    (s.groups[groupOfPair p].state = .off → ¬ bad →
      let new : Pair :=
        { interlock := on, guardTicks := v.toNat % 2048
          running := if on = old.interlock then old.running else none
          deferral := if on = old.interlock then old.deferral else none }
      let t : State := { s with lines := { s.lines with pairs := s.lines.pairs.set p new } }
      exec (.pairCfgWrite p v) s = .next t ∧
      readWord t a = (v &&& 0x87FF) ||| (if new.running.isSome then 0x4000 else 0)))

/-- GROUP_CFG and IN_CFG: taken or refused by their own rules, and then each field takes its bits by R202, and
the register reads what was written in the bits that have fields. A GROUP_CFG write changes no part of the
trip record. An IN_CFG write that enables an input takes the level last sampled without a capture; one that
disables it, or changes the filter of an enabled one, discards its run (R87, R107, R108, R202). The write of
GROUP_STAT selects the view (R88), and that of FILTER_INT sets the interval and restarts the phase (R109). -/
def Obligations.GroupAndInputConfigWrites : Prop :=
  (∀ (s : State) (g : Fin 4) (v : Word),
    let a : BitVec 7 := BitVec.ofNat 7 (0x38 + g.val)
    let bad : Prop := v.toNat % 4 = 3 ∨ v.toNat / 4 % 4 = 3
    (s.groups[g].state ≠ .off →
      exec (.groupCfgWrite g v) s = .next (refusedWrite .wrongState a s)) ∧
    (s.groups[g].state = .off → bad →
      exec (.groupCfgWrite g v) s = .next (refusedWrite .range a s)) ∧
    (s.groups[g].state = .off → ¬ bad →
      let use : TripUse → Nat := fun u => match u with | .none => 0 | .level => 1 | .edge => 2
      ∃ use0 use1 : TripUse, use use0 = v.toNat % 4 ∧ use use1 = v.toNat / 4 % 4 ∧
        (let t : State := { s with groups := s.groups.set g { s.groups[g] with
            use0 := use0, use1 := use1, policy := if v.getLsbD 4 then .purge else .hold } };
          exec (.groupCfgWrite g v) s = .next t ∧ readWord t a = v &&& 0x001F))) ∧
  (∀ (s : State) (g : Fin 4) (v : Word),
    exec (.statusViewSelect g v) s = .next
      (if v.toNat ≤ 3 then
        { s with groups := s.groups.set g { s.groups[g] with view := Fin.ofNat 4 v.toNat } }
      else refusedWrite .range (BitVec.ofNat 7 (0x3C + g.val)) s)) ∧
  (∀ (s : State) (n : Fin 8) (v : Word),
    let a : BitVec 7 := BitVec.ofNat 7 (0x40 + n.val)
    let i := s.capture.inputs[n]
    let filter := v.toNat / 16 % 16
    let bad : Prop := v.toNat / 2 % 4 = 3 ∨ filter = 1 ∨ 8 < filter
    (bad → exec (.inCfgWrite n v) s = .next (refusedWrite .range a s)) ∧
    (¬ bad → ∃ x : Input,
        (let t : State := { s with capture := { s.capture with inputs := s.capture.inputs.set n x } };
          exec (.inCfgWrite n v) s = .next t ∧ readWord t a = v &&& 0x00FF) ∧
        x.enable = v.getLsbD 0 ∧
        (match x.edge with | .rise => 0 | .fall => 1 | .both => 2) = v.toNat / 2 % 4 ∧
        x.queued = v.getLsbD 3 ∧ x.filter = filter ∧ x.sampled = i.sampled ∧ x.runStart = i.runStart ∧
        (i.enable = false → x.enable = true →
          x.settled = i.sampled ∧ x.candidate = i.sampled ∧ x.runCount = 0) ∧
        (i.enable = true → x.enable = false ∨ x.filter ≠ i.filter →
          x.settled = i.settled ∧ x.candidate = i.settled ∧ x.runCount = 0) ∧
        (i.enable = false ∧ x.enable = false ∨
            i.enable = true ∧ x.enable = true ∧ x.filter = i.filter →
          x.settled = i.settled ∧ x.candidate = i.candidate ∧ x.runCount = i.runCount))) ∧
  (∀ (s : State) (v : Word),
    exec (.filterIntWrite v) s = .next
      (if 1 ≤ v.toNat ∧ v.toNat ≤ 64 then
        { s with capture := { s.capture with filterInt := v.toNat, samplePhase := 0 } }
      else refusedWrite .range 0x48 s))

/-! ## Flags, levels and the interrupt line -/

/-- IRQ# is low exactly while an enabled flag is set or an enabled level is true, each flag at its bit of
FLAGS by the table of R196. IRQ_EN takes the
written value in the bits that have enables; device reset makes it 0 and releases IRQ#; the service of
ENGINE_RESET keeps it, and leaves CMD_DONE set, both queues empty and TRIP0..TRIP3 as they were (R196,
R198). -/
def Obligations.IrqLineFollowsEnabledSources : Prop :=
  (∀ s : State, irqLow s = true ↔
    (∃ n, n ≤ 10 ∧ (readWord s 0x04).getLsbD n = true ∧ (readWord s 0x05).getLsbD n = true) ∨
    ((readWord s 0x06).getLsbD 0 = true ∧ (readWord s 0x05).getLsbD 12 = true) ∨
    ((readWord s 0x06).getLsbD 1 = true ∧ (readWord s 0x05).getLsbD 13 = true)) ∧
  (∀ s : State, (∀ n : Fin 11, (readWord s 0x04).getLsbD n.val = flagAt s.irq.flags n) ∧
    readWord s 0x05 = s.irq.enable) ∧
  (∀ (s : State) (v : Word), exec (.irqEnWrite v) s = .next
    { s with irq := { s.irq with enable := v &&& 0x37FF } }) ∧
  (∀ s t : State, exec .deviceReset s = .next t → readWord t 0x05 = 0 ∧ irqLow t = false) ∧
  (∀ (part : ServicePart) (s t : State), exec (.engineResetService part) s = .next t →
    readWord t 0x05 = readWord s 0x05) ∧
  (∀ s t : State, hostGranted 0x3F s → exec (.engineResetService .whole) s = .next t →
    t.irq.flags.cmdDone = true ∧ t.capture.queue = [] ∧ t.reports.queue = [] ∧
    t.irq.flags.trip = s.irq.flags.trip)

/-- STATUS shows the levels of R197 and nothing else, and a write to it is refused with READ_ONLY. -/
def Obligations.StatusLevels : Prop :=
  ∀ s : State,
    let w := readWord s 0x06
    (w.getLsbD 0 = true ↔ s.capture.threshold ≤ s.capture.queue.length) ∧
    (w.getLsbD 1 = true ↔ s.reports.threshold ≤ s.reports.queue.length) ∧
    w.getLsbD 2 = s.port.waiting ∧ w.getLsbD 3 = s.timebase.running ∧
    w.toNat / 16 % 8 =
      (match s.batch.state with
        | .empty => 0 | .opened => 1 | .armed => 2 | .applied => 3 | .failed => 4 | .abandoned => 5) ∧
    w.toNat < 128 ∧
    ∀ v : Word, exec (.registerWrite 0x06 v) s = .next (refusedWrite .readOnly 0x06 s)

/-! ## Time -/

/-- "Later than" is one of the four cases of R12 exactly, "not later than" the other three, it is not
transitive around the circle, and within one span it is transitive and agrees with the order of leads
from the span's first moment (the spec says from any moment of the span: read here as the first, log
27). Every time is due, in the future or late; its lead falls by 1 at a tick; a time in the future by `n`
ticks is due after `n` ticks and late after one more; the slip of a late time is 2^32 less its lead (R11,
R12, R13). -/
def Obligations.TimesAreJudgedByLead : Prop :=
  (∀ a b : Time,
    let half : Prop := (a - b).toNat = 2147483648
    (a = b ∨ laterThan a b = true ∨ laterThan b a = true ∨ half) ∧
    ¬ (a = b ∧ laterThan a b = true) ∧ ¬ (a = b ∧ laterThan b a = true) ∧ ¬ (a = b ∧ half) ∧
    ¬ (laterThan a b = true ∧ laterThan b a = true) ∧ ¬ (laterThan a b = true ∧ half) ∧
    ¬ (laterThan b a = true ∧ half) ∧
    (laterThan a b = false ↔ a = b ∨ laterThan b a = true ∨ half)) ∧
  (∃ a b c : Time, laterThan a b = true ∧ laterThan b c = true ∧ laterThan a c = false) ∧
  (∀ base a b c : Time, withinSpan base [a, b, c] →
    (laterThan a b = true ↔ lead b base < lead a base) ∧
    (laterThan a b = true → laterThan b c = true → laterThan a c = true)) ∧
  (∀ t now : Time,
    (isDue t now = true ↔ t = now) ∧ (isLate t now = true ↔ 2147483648 ≤ lead t now) ∧
    lead t now < 4294967296 ∧
    (lead t now ≠ 0 → lead t (now + 1) + 1 = lead t now) ∧
    (isLate t now = true → slip now t + lead t now = 4294967296)) ∧
  (∀ (t now : Time) (n : Nat), lead t now = n → 1 ≤ n → n ≤ 2147483647 →
    isDue t (now + ticks n) = true ∧ isLate t (now + ticks (n + 1)) = true)

/-- TICK and SOURCE_EVENT: a source event of the selected source, while RUNNING, adds 1 to the phase, or
makes the tick: phase 0 and TIME one more, modulo 2^32, and nothing else where no pair stands at its
guard end. Prescale source events from phase 0 make exactly one tick. Other source events do nothing
(R1, R2, R3). That a source event of EXTERNAL leaves TCLK's level and its samples as they are, and that TICK,
under its row, is the source event that completes the prescale, is the model's (log 5); the premise on guard
ends comes from the model's catch-up of guard ends at a tick (log 4). -/
def Obligations.SourceEventsMakeTicks : Prop :=
  (∀ s : State, (∀ (p : Fin 8) (w : PairWait), s.lines.pairs[p].running = some w →
      w.endTime ≠ s.timebase.time) → s.timebase.running = true →
    (∀ src : TickSource, src ≠ s.timebase.source → exec (.sourceEvent src) s = .next s) ∧
    (s.timebase.phase < s.timebase.prescaleField.toNat →
      exec (.sourceEvent s.timebase.source) s = .next
        { s with timebase := { s.timebase with phase := s.timebase.phase + 1 } }) ∧
    (s.timebase.phase = s.timebase.prescaleField.toNat →
      exec .tick s = .next
        { s with timebase := { s.timebase with phase := 0, time := s.timebase.time + 1 } } ∧
      exec (.sourceEvent s.timebase.source) s = exec .tick s) ∧
    (s.timebase.phase = 0 →
      (countSourceEvent s.timebase.source)^[s.timebase.prescaleField.toNat + 1] s =
        { s with timebase := { s.timebase with time := s.timebase.time + 1 } })) ∧
  (∀ (s : State) (src : TickSource), s.timebase.running = false →
    exec (.sourceEvent src) s = .next s)

/-- START, STOP and TB_CONFIG: writes of TB_CTRL by the table of R6. STOPPED, every write is taken, and
RUN written RUNNING is the start of R4. RUNNING, a write that keeps source and prescale is taken, and
RUN written STOPPED is the stop of R5; any other is refused with WRONG_STATE. TB_CTRL reads back its
fields (R4, R5, R6, R202). -/
def Obligations.TimebaseControlWrites : Prop :=
  ∀ (s : State) (src : TickSource) (p : BitVec 8),
    let tb := s.timebase
    (tb.running = false →
      exec (.start src p) s = .next { s with timebase :=
        { tb with running := true, source := src, prescaleField := p, phase := 0 } } ∧
      exec (.stop src p) s = .next { s with timebase := { tb with source := src, prescaleField := p } }) ∧
    (tb.running = true → src = tb.source ∧ p = tb.prescaleField →
      exec (.start src p) s = .next s ∧
      exec (.stop src p) s = .next { s with timebase := { tb with running := false } }) ∧
    (tb.running = true → ¬ (src = tb.source ∧ p = tb.prescaleField) →
      exec (.start src p) s = .next (refusedWrite .wrongState 0x01 s) ∧
      exec (.stop src p) s = .next (refusedWrite .wrongState 0x01 s)) ∧
    exec (.tbConfig (tbCtrlWord true src p)) s = exec (.start src p) s ∧
    exec (.tbConfig (tbCtrlWord false src p)) s = exec (.stop src p) s ∧
    (readWord s 0x01).toNat = tb.prescaleField.toNat + 256 * (if tb.source = .external then 1 else 0) +
      32768 * (if tb.running then 1 else 0) ∧
    (∀ v : Word, tb.running = false →
      ∃ t, exec (.tbConfig v) s = .next t ∧ readWord t 0x01 = v &&& 0x81FF)

/-- A write of TIME_HI loads the write hold and does nothing else, in every state; the write hold changes
at no other command but device reset, and at no step on an empty queue (R8). -/
def Obligations.TimeHighWriteHold : Prop :=
  (∀ (s : State) (v : Word), exec (.timeHiWrite v) s = .next
    { s with timebase := { s.timebase with writeHold := v } }) ∧
  (∀ (c : Instr) (s t : State), exec c s = .next t →
    (∀ v, c ≠ .timeHiWrite v) → (∀ v, c ≠ .registerWrite 0x03 v) → c ≠ .deviceReset →
    t.timebase.writeHold = s.timebase.writeHold) ∧
  (∀ s t : State, s.pending = [] → step s = .next t → t.timebase.writeHold = s.timebase.writeHold)

/-- A read of TIME_LO returns the low half of TIME and captures the high half, and changes nothing
else; a read of TIME_HI returns the captured half, which no other command but device reset changes, and no
step on an empty queue: the
two reads together give TIME as it stood at the TIME_LO read, whatever comes between; after device
reset, with no TIME_LO read yet, TIME_HI reads 0 (R10). -/
def Obligations.TimeReadSnapshot : Prop :=
  (∀ s : State, ∃ t : State, exec .timeLoRead s = .next t ∧
    t = { s with dataOut := t.dataOut, timebase := { s.timebase with snapshot := readWord t 0x03 } } ∧
    t.dataOut.toNat = s.timebase.time.toNat % 65536 ∧
    (readWord t 0x03).toNat = s.timebase.time.toNat / 65536) ∧
  (∀ (c : Instr) (s t : State), exec c s = .next t → c ≠ .timeLoRead → c ≠ .deviceReset →
    readWord t 0x03 = readWord s 0x03) ∧
  (∀ s t : State, s.pending = [] → step s = .next t → readWord t 0x03 = readWord s 0x03) ∧
  (∀ s t : State, exec .deviceReset s = .next t → readWord t 0x03 = 0)

/-- A TIME_LO write is taken while STOPPED with the agenda IDLE and empty: TIME becomes the write hold
times 65536 plus the value, and every guard and every deferral keeps its remaining ticks; all else
stands. In any other case it is refused with WRONG_STATE (R9, R81). -/
def Obligations.TimeLowWriteKeepsGuards : Prop :=
  ∀ (s : State) (v : Word),
    let takes : Prop := s.timebase.running = false ∧ s.arbiter.activity = none ∧ s.agenda.list = []
    (¬ takes → exec (.timeLoWrite v) s = .next (refusedWrite .wrongState 0x02 s)) ∧
    (takes → ∃ t : State, exec (.timeLoWrite v) s = .next t ∧
      t = { s with timebase := { s.timebase with time := t.timebase.time }
                   lines := { s.lines with pairs := t.lines.pairs } } ∧
      t.timebase.time.toNat = 65536 * s.timebase.writeHold.toNat + v.toNat ∧
      ∀ p : Fin 8,
        let x := s.lines.pairs[p]
        let y := t.lines.pairs[p]
        y.interlock = x.interlock ∧ y.guardTicks = x.guardTicks ∧
        y.running.map PairWait.side = x.running.map PairWait.side ∧
        y.running.map (fun w => w.endTime - t.timebase.time) =
          x.running.map (fun w => w.endTime - s.timebase.time) ∧
        y.deferral.map PairWait.side = x.deferral.map PairWait.side ∧
        y.deferral.map (fun w => w.endTime - t.timebase.time) =
          x.deferral.map (fun w => w.endTime - s.timebase.time))

/-! ## The agenda -/

/-- A placement puts the entry directly behind the last entry that is not later than it: everything
after it is later, the entry before it is not, and the others keep their order. Within one span of
2147483648 values the list stays in order of due (R24). -/
def Obligations.PlacementOrder : Prop :=
  (∀ (e : Entry) (l : List Entry), ∃ before after : List Entry,
    l = before ++ after ∧ placeIn e l = before ++ e :: after ∧
    (∀ x ∈ after, laterThan x.due e.due = true) ∧
    (∀ x, before.getLast? = some x → laterThan x.due e.due = false)) ∧
  (∀ (base : Time) (e : Entry) (l : List Entry),
    withinSpan base (e.due :: l.map Entry.due) → dueOrdered l → dueOrdered (placeIn e l))

/-- A handle resolves by R21: STALE where its generation is not the slot's, NOT_PENDING where it is and
the slot is free, else the entry it names. -/
def Obligations.HandleResolution : Prop :=
  ∀ (s : State) (h : Handle), SlotInv s →
    (resolve h s = .stale ↔ genOf s h.slot ≠ h.gen) ∧
    (resolve h s = .notPending ↔ genOf s h.slot = h.gen ∧ h.slot ∈ s.agenda.free) ∧
    (∀ e, resolve h s = .pending e ↔ e ∈ s.agenda.list ∧ e.handle = h)

/-! ## Invariants -/

/-- Every step keeps the slots: each is at every moment once in the free queue or in exactly one pending
entry, whose generation is the slot's; so FREE_COUNT, which reads the free queue's length, and PENDING_COUNT,
which reads the list's, make 256 (R18, R19, R20). -/
def Obligations.SlotsKeptByEveryStep : Prop :=
  (∀ s t : State, SlotInv s → step s = .next t → SlotInv t) ∧
  (∀ s : State, SlotInv s → (readWord s 0x1A).toNat = s.agenda.free.length ∧
    (readWord s 0x1D).toNat = s.agenda.list.length ∧
    (readWord s 0x1A).toNat + (readWord s 0x1D).toNat = 256)

/-- Every step keeps each pending entry, and each insertion on its way to the agenda, within the values
of R15 to R17: widths, periods, counts, anchors, missed counts, and a PULSE staged in ASSERT (R15, R16, R17,
R29, R31, R127). -/
def Obligations.EntriesKeptValidByEveryStep : Prop :=
  ∀ s t : State, EntryInv s → step s = .next t → EntryInv t

/-- Every step keeps the interlock: the lines of an interlocked pair are never both ACTIVE nor both of
safe level ACTIVE, a line is never ACTIVE and deferred, a deferral names the partner of the off-line
with the guard's end time, and a guard lies at most 1023 ticks ahead. Every output pin shows what R68 gives
from its line's mode, its group's state, and the polarity, safe level and intended level of the line; so the
two output pins of an interlocked pair are never both at their active levels (R65, R66, R68, R69, R70, R76,
R78). -/
def Obligations.PairsKeptByEveryStep : Prop :=
  (∀ s t : State, PairInv s → step s = .next t → PairInv t) ∧
  (∀ (s : State) (l : Fin 16),
    let x := s.lines.lines[l]
    let g := s.groups[groupOf l].state
    let activeLevel : PinLevel := match x.polarity with | .activeHigh => .high | .activeLow => .low
    let inactiveLevel : PinLevel := match x.polarity with | .activeHigh => .low | .activeLow => .high
    (x.mode = .off ∨ g = .off → outPin s l = .floating) ∧
    (x.mode = .drive → g = .run → outPin s l = if x.active then activeLevel else inactiveLevel) ∧
    (x.mode = .drive → g = .tripped → outPin s l =
      (match x.safe with | .inactive => inactiveLevel | .active => activeLevel | .float => .floating))) ∧
  ∀ (s : State) (p : Fin 8), PairInv s → s.lines.pairs[p].interlock = true →
    ¬ (outPin s (lineOn p 0) = levelFor s.lines.lines[lineOn p 0].polarity true ∧
       outPin s (lineOn p 1) = levelFor s.lines.lines[lineOn p 1].polarity true)

/-- Every step keeps the group records: a cause set is empty but in TRIPPED, where it holds a cause, and
purge-pending is set exactly while the group's purge claim waits or is served, in TRIPPED (R55, R86,
R96). -/
def Obligations.GroupsKeptByEveryStep : Prop :=
  ∀ s t : State, GroupInv s → step s = .next t → GroupInv t

/-- Every step keeps the queues within their capacities, the lost counters within 255 and the ranged
registers in range (R109, R116, R117, R120, R135, R136, R144, R165, R166, R169, R22, R23). -/
def Obligations.CapacitiesKeptByEveryStep : Prop :=
  ∀ s t : State, CapacityInv s → step s = .next t → CapacityInv t

/-- Every step keeps the command port: it is WAITING exactly while its one command waits at the arbiter,
is served, or is held by the batch unit, and RESULT is NONE then (R58, R172, R173, R176). -/
def Obligations.PortKeptByEveryStep : Prop :=
  ∀ s t : State, PortInv s → step s = .next t → PortInv t

/-- Every step keeps the batch: an apply claim or a watched entry means ARMED, an ARMED batch is in
exactly one of the two conditions of R143 or under apply, and a watched boundary entry is pending
(R56, R143, R148, R149, R150). -/
def Obligations.BatchKeptByEveryStep : Prop :=
  ∀ s t : State, SlotInv s → BatchInv s → step s = .next t → BatchInv t

/-- A group leaves TRIPPED only by device reset or by a RELEASE, taken while none of its LEVEL sources
is asserted and no purge is pending, that makes it RUN with an empty cause set; a step on an empty queue
leaves it TRIPPED (R102, R101). -/
def Obligations.GroupLeavesTrippedOnlyByRelease : Prop :=
  (∀ (c : Instr) (s t : State) (g : Fin 4), exec c s = .next t →
    s.groups[g].state = .tripped → t.groups[g].state ≠ .tripped →
    c = .deviceReset ∨
    (t.port.cmd = 0x13 ∧ s.port.waiting = false ∧ s.port.params[0].toNat = g.val ∧
      levelAsserted g s = false ∧ s.groups[g].purgePending = false ∧
      t.groups[g] = { s.groups[g] with state := .run, causes := noCauses })) ∧
  (∀ (s t : State) (g : Fin 4), s.pending = [] → step s = .next t →
    s.groups[g].state = .tripped → t.groups[g].state = .tripped)

/-! ## Acceptance of commands -/

/-- The agenda commands at a READY port: each raises the host claim and leaves the port WAITING, but an
INSERT that fails a check of R178 and a QUERY of another part than 0 or 1 complete at once with
BAD_PARAM (R58, R173, R178, R183). -/
def Obligations.AgendaCommandsAccepted : Prop :=
  ∀ s : State, s.port.waiting = false → s.port.held = none →
    (insertParamsOk s.port.params = true →
      exec .insert s = .next (acceptedForAgenda 0x01 s)) ∧
    (insertParamsOk s.port.params = false →
      exec .insert s = .next (answeredAtOnce 0x01 .badParam s)) ∧
    exec .cancel s = .next (acceptedForAgenda 0x02 s) ∧
    exec .retime s = .next (acceptedForAgenda 0x03 s) ∧
    exec .cancelTag s = .next (acceptedForAgenda 0x04 s) ∧
    (s.port.params[1].toNat ≤ 1 → exec .query s = .next (acceptedForAgenda 0x05 s)) ∧
    (2 ≤ s.port.params[1].toNat → exec .query s = .next (answeredAtOnce 0x05 .badParam s)) ∧
    exec .head s = .next (acceptedForAgenda 0x06 s) ∧
    exec .engineReset s = .next (acceptedForAgenda 0x3F s)

/-- A WAITING port refuses every CMD write and every parameter write with CMD_WAITING. A READY port
takes a parameter write, and completes a value that is no command code at once with BAD_COMMAND
(R171, R173, R174). -/
def Obligations.PortRefusesWhileWaiting : Prop :=
  ∀ (s : State) (k : Fin 8) (v : Word),
    (s.port.waiting = true →
      (∀ c ∈ [Instr.insert, .cancel, .retime, .cancelTag, .query, .head, .engineReset, .lineSet,
          .groupStart, .groupStop, .trip, .release, .batchInsert, .batchCancel, .batchRetime,
          .batchCommit, .batchDiscard, .badCommand v, .registerWrite 0x08 v],
        exec c s = .next (refusedWrite .cmdWaiting 0x08 s)) ∧
      exec (.parameterWrite k v) s = .next
        (refusedWrite .cmdWaiting (BitVec.ofNat 7 (0x0A + k.val)) s)) ∧
    (s.port.waiting = false →
      exec (.parameterWrite k v) s = .next
        { s with port := { s.port with params := s.port.params.set k v } } ∧
      (v ∉ commandCodes → exec (.badCommand v) s = .next (answeredAtOnce v .badCommand s)))

/-! ## The arbiter -/

/-- The arbiter grants, at an IDLE agenda with no held answer outstanding, the waiting claim of highest
rank: expiry, then the lowest-numbered purge, then the batch apply, the reaction, the host (R51, R52,
R54, R57, R176). -/
def Obligations.GrantsFollowRank : Prop :=
  ∀ s : State,
    let ready : Prop := s.arbiter.activity = none ∧ s.port.held = none
    let headDue : Prop := ∃ e rest, s.agenda.list = e :: rest ∧
      (e.due = s.timebase.time ∨ 2147483648 ≤ lead e.due s.timebase.time)
    let noPurge : Prop := ∀ g : Fin 4, s.arbiter.purge[g] = false
    (nextClaim s = some .expiry ↔ ready ∧ headDue) ∧
    (∀ g : Fin 4, nextClaim s = some (.purge g) ↔ ready ∧ ¬ headDue ∧ s.arbiter.purge[g] = true ∧
      ∀ j : Fin 4, j < g → s.arbiter.purge[j] = false) ∧
    (nextClaim s = some .apply ↔ ready ∧ ¬ headDue ∧ noPurge ∧ s.arbiter.apply = true) ∧
    (nextClaim s = some .reaction ↔ ready ∧ ¬ headDue ∧ noPurge ∧ s.arbiter.apply = false ∧
      s.reactions.fifo ≠ []) ∧
    (nextClaim s = some .host ↔ ready ∧ ¬ headDue ∧ noPurge ∧ s.arbiter.apply = false ∧
      s.reactions.fifo = [] ∧ s.arbiter.host = true)

/-- A service granted at an IDLE agenda and finished with nothing between is the whole service; a granted
service leaves the agenda SERVING, takes TIME and RESERVE as they stand (R52, R53, R22), and leaves the
agenda's list, free queue and generations as they were; while a service is under way no other is granted. The
rest of a service under way, where the row stands for it, is its next moves one after the other. A request
that is the next thing a service asks, with more to follow, is answered by the line unit as it stands then,
and its record has the kind of the group's state then; so is an offer by the report queue; the agenda that
others read stands until the end (R27, R53, R165, R166). The parts of a service row are the model's form (log
2), and so is that a row whose service cannot be granted, or is not the one under way, changes nothing (log
3). -/
def Obligations.GrantThenFinishIsTheWholeService : Prop :=
  ∀ row ∈ serviceRows,
    (∀ s t : State,
      (s.arbiter.activity = none → exec (row .grant) s = .next t →
        exec (row .finish) t = exec (row .whole) s ∧ t.agenda = s.agenda ∧
        (t = s ∨ ∃ v, t.arbiter.activity = some v ∧ nextClaim s = some v.claim ∧
          v.taken = s.timebase.time ∧ v.reserve = s.agenda.reserve)) ∧
      (s.arbiter.activity ≠ none → exec (row .grant) s = .next s ∧ exec (row .whole) s = .next s)) ∧
    (∀ s t : State, exec (row .finish) s = .next t → ∃ n : Nat, (afterCommand (row .advance))^[n] s = t) ∧
    (∀ (s : State) (v : Service) (ks : List Task), s.arbiter.activity = some v → ks ≠ [] →
      exec (row .finish) s ≠ .next s →
      (∀ l r x, v.todo = .request l r (some x) :: ks →
        exec (row .advance) s = .next
          { s with
            lines := (request l r s).2.lines
            arbiter := { s.arbiter with activity := (some { v with todo := (.offer { x with kind :=
              (match (request l r s).1 with
                | .deferred => .deferred
                | .blocked => .blocked
                | .applied =>
                  if s.groups[groupOf l].state = .tripped then .suppressed else x.kind) }) :: ks }) } }) ∧
      (∀ r, v.todo = .offer r :: ks → s.reports.queue.length < 64 →
        exec (row .advance) s = .next
          { s with
            reports := { s.reports with queue := s.reports.queue ++ [r] }
            arbiter := { s.arbiter with activity := some { v with todo := ks } } }) ∧
      (∀ r, v.todo = .offer r :: ks → 64 ≤ s.reports.queue.length →
        exec (row .advance) s = .next
          { s with
            reports := { s.reports with lost := min 255 (s.reports.lost + 1) }
            irq := { s.irq with flags := { s.irq.flags with rptLost := true } }
            arbiter := { s.arbiter with activity := some { v with todo := ks } } }))

/-! ## Agenda services -/

/-- INSERT_SERVICE in the order of R37: LATE under DROP, NO_SLOT, RESERVE, each with nothing allocated;
else an entry within the horizon is placed in the oldest free slot under the slot's next generation,
POOL_LOW is set where the free count falls below its threshold, and the command completes with OK, the
handle and PENDING; nothing else changes (R17, R19, R20, R22, R23, R24, R37, R38, R179). -/
def Obligations.InsertServiceAnswers : Prop :=
  ∀ (s : State) (i : Insertion), hostGranted 0x01 s → insertionOf s.port.params = some i →
    let late : Prop := isLate i.due s.timebase.time = true
    (late → i.late = .drop →
      exec (.insertService .whole) s = .next (posted .late [] (hostServed s))) ∧
    (¬ (late ∧ i.late = .drop) → s.agenda.free = [] →
      exec (.insertService .whole) s = .next (posted .noSlot [] (hostServed s))) ∧
    (¬ (late ∧ i.late = .drop) → s.agenda.free ≠ [] →
      s.agenda.free.length < s.agenda.reserve + 1 →
      exec (.insertService .whole) s = .next (posted .reserve [] (hostServed s))) ∧
    (∀ (slot : BitVec 8) (rest : List (BitVec 8)), ¬ late → s.agenda.free = slot :: rest →
      s.agenda.reserve ≤ rest.length →
      let gen := genOf s slot + 1
      let e : Entry :=
        { handle := { slot := slot, gen := gen }, due := i.due, anchor := i.due, job := i.job
          repetition := i.repetition, late := i.late, option := i.option, tag := i.tag
          origin := .host, missed := 0 }
      exec (.insertService .whole) s = .next (posted .ok [handleWord e.handle, 1] (hostServed
        { s with
          agenda :=
            { s.agenda with
              list := placeIn e s.agenda.list, free := rest
              gens := s.agenda.gens.set slot.toFin gen }
          irq :=
            { s.irq with flags :=
              { s.irq.flags with
                poolLow := s.irq.flags.poolLow || decide (rest.length < s.agenda.poolLow) } } })))

/-- An entry inserted late under FIRE acts at once in the same service, and all follows that follows an act
in an expiry service: a PULSE moves to RETURN, a periodic entry is placed again; the command completes with
OK, the handle and PENDING or DONE. A one-shot entry, not a PULSE, ends in the same service:
its slot is allocated, its generation advanced, and the slot joins the tail of the free queue; its line
takes the request; its final record, where its option offers one and there is room, is never FIRED; the
command completes with OK, the handle and DONE (R23, R34, R39, R179). -/
def Obligations.LateInsertUnderFireActsAtOnce : Prop :=
  ∀ (s : State) (i : Insertion) (slot : BitVec 8) (rest : List (BitVec 8)),
    hostGranted 0x01 s → insertionOf s.port.params = some i →
    isLate i.due s.timebase.time = true → i.late = .fire →
    s.agenda.free = slot :: rest → s.agenda.reserve ≤ rest.length →
    let h : Handle := { slot := slot, gen := genOf s slot + 1 }
    let e : Entry :=
      { handle := h, due := i.due, anchor := i.due, job := i.job, repetition := i.repetition
        late := i.late, option := i.option, tag := i.tag, origin := .host, missed := 0 }
    let a : Agenda := { s.agenda with free := rest, gens := s.agenda.gens.set slot.toFin h.gen }
    ∃ t : State, exec (.insertService .whole) s = .next t ∧
      t.port.result = .ok ∧ t.port.waiting = false ∧ t.irq.flags.cmdDone = true ∧
      t.irq.flags.poolLow = (s.irq.flags.poolLow || decide (rest.length < s.agenda.poolLow)) ∧
      readWord t 0x12 = handleWord h ∧
      ActsNow e a s t ∧ t.reactions = s.reactions ∧
      (isPending h t.agenda = true → readWord t 0x13 = 1) ∧
      (isPending h t.agenda = false → readWord t 0x13 = 2) ∧
      (SlotInv s → i.repetition = .oneShot → (∀ l w p, i.job ≠ .pulse l w p) → s.batch.watch ≠ some h →
        t.agenda = { a with free := rest ++ [slot] } ∧ readWord t 0x13 = 2 ∧
        t.lines = (match i.job with | .drive l r => (request l r s).2.lines | _ => s.lines) ∧
        (i.option = .none → t.reports = s.reports) ∧
        (i.option ≠ .none → s.reports.queue.length < 64 → ∃ r : Report,
          t.reports.queue = s.reports.queue ++ [r] ∧
          r.kind ∈ [ReportKind.late, .suppressed, .deferred, .blocked] ∧
          r.final = true ∧ r.origin = .host ∧ r.handle = some h ∧ r.tag = i.tag ∧
          r.line = jobLine i.job ∧ r.due = i.due ∧ r.taken = s.timebase.time ∧ r.missed = 0))

/-- CANCEL_SERVICE: STALE and NOT_PENDING change nothing else; a pending entry leaves the list, its slot
joins the free queue's tail, a PULSE in RETURN is closed, its CANCELLED record is offered by its option,
a batch that watches it is ABANDONED, its boundary kept (log 24), and the answer is OK (R33, R34, R35, R41, R42,
R149, R165, R166, R180). -/
def Obligations.CancelServiceRemovesTheEntry : Prop :=
  ∀ s : State, hostGranted 0x02 s →
    let h := handleOfWord s.port.params[0]
    (resolve h s = .stale →
      exec (.cancelService .whole) s = .next (posted .stale [] (hostServed s))) ∧
    (resolve h s = .notPending →
      exec (.cancelService .whole) s = .next (posted .notPending [] (hostServed s))) ∧
    (SlotInv s → ∀ e ∈ s.agenda.list, e.handle = h →
      ∃ t : State, exec (.cancelService .whole) s = .next t ∧
        t.agenda = { s.agenda with
          list := s.agenda.list.filter (fun x => x.handle.slot != h.slot)
          free := s.agenda.free ++ [h.slot] } ∧
        t.port = { s.port with waiting := false, result := .ok, held := none } ∧
        t.irq.flags.cmdDone = true ∧
        (inReturn e.job = false → t.lines = s.lines) ∧
        (∀ l w, e.job = .pulse l w .returnAct → t.lines = (request l .inactive s).2.lines) ∧
        (e.option = .none → t.reports = s.reports) ∧
        (e.option ≠ .none →
          Offered [recordNow e .cancelled true e.due e.missed s.timebase.time] s t) ∧
        BoundaryGone h s t ∧
        t.timebase = s.timebase ∧ t.groups = s.groups ∧ t.capture = s.capture ∧
        t.reactions = s.reactions ∧ t.pins = s.pins)

/-- A cancellation by tag, of the host or of a reaction, removes every entry of the tag and no other, in
list order: the other entries keep their order, the slots join the free queue's tail, a PULSE in RETURN is
closed, each entry with a report option offers one CANCELLED record, kept while there is room and else
counted as lost, and a batch that watches one of them is ABANDONED. The host's answer is OK with the number
in RES1; the reaction's record leaves the FIFO and no result is posted (R41, R42, R43, R57, R140, R149,
R166, R182; that the ABANDONED batch keeps its boundary: log 24). -/
def Obligations.CancelByTagRemovesEveryEntryOfTheTag : Prop :=
  (∀ s : State, hostGranted 0x04 s →
    let tag := s.port.params[6]
    ∃ t : State, exec (.cancelTagService .whole) s = .next t ∧
      RemovedWhere (fun e => e.tag == tag) .cancelled s t ∧
      t.port = { s.port with
        waiting := false, result := .ok, held := none
        res := s.port.res.set 0
          (BitVec.ofNat 16 (s.agenda.list.filter (fun e => e.tag == tag)).length) } ∧
      t.irq.flags.cmdDone = true ∧ t.arbiter = { s.arbiter with host := false, activity := none } ∧
      t.groups = s.groups ∧ t.reactions = s.reactions) ∧
  (∀ (s : State) (r : PendingReaction) (more : List PendingReaction) (tag : Word),
    nextClaim s = some .reaction → s.reactions.fifo = r :: more → r.kind = .cancelTag → r.tag = tag →
    ∃ t : State, exec (.reactionCancelTag .whole) s = .next t ∧
      RemovedWhere (fun e => e.tag == tag) .cancelled s t ∧
      t.reactions = { s.reactions with fifo := more } ∧ t.port = s.port ∧
      t.irq.flags.cmdDone = s.irq.flags.cmdDone ∧ t.arbiter = { s.arbiter with activity := none } ∧
      t.groups = s.groups)

/-- RETIME_SERVICE by its first case that holds: STALE, NOT_PENDING, WRONG_STATE for a PULSE in RETURN, LATE
under DROP, each with no other change; for a late due under FIRE the entry acts at once at the new due, as in
an expiry service, and the answer is OK, the handle and PENDING or DONE; else, for a due within the horizon,
the entry is placed again with due and anchor the new due and every other field kept, and the answer is OK,
the handle and PENDING (R44, R45, R181). -/
def Obligations.RetimeServiceMovesTheEntry : Prop :=
  ∀ s : State, hostGranted 0x03 s →
    let h := handleOfWord s.port.params[0]
    let due := ofHalves s.port.params[1] s.port.params[2]
    (resolve h s = .stale →
      exec (.retimeService .whole) s = .next (posted .stale [] (hostServed s))) ∧
    (resolve h s = .notPending →
      exec (.retimeService .whole) s = .next (posted .notPending [] (hostServed s))) ∧
    (SlotInv s → ∀ e ∈ s.agenda.list, e.handle = h →
      (inReturn e.job = true →
        exec (.retimeService .whole) s = .next (posted .wrongState [] (hostServed s))) ∧
      (inReturn e.job = false → isLate due s.timebase.time = true → e.late = .drop →
        exec (.retimeService .whole) s = .next (posted .late [] (hostServed s))) ∧
      (inReturn e.job = false → isLate due s.timebase.time = true → e.late = .fire →
        ∃ t : State, exec (.retimeService .whole) s = .next t ∧
          ActsNow { e with due := due, anchor := due }
            { s.agenda with list := s.agenda.list.filter (fun x => x.handle.slot != h.slot) } s t ∧
          t.port.result = .ok ∧ t.port.waiting = false ∧ t.irq.flags.cmdDone = true ∧
          readWord t 0x12 = handleWord h ∧ t.reactions = s.reactions ∧
          (isPending h t.agenda = true → readWord t 0x13 = 1) ∧
          (isPending h t.agenda = false → readWord t 0x13 = 2)) ∧
      (inReturn e.job = false → isLate due s.timebase.time = false →
        exec (.retimeService .whole) s = .next (posted .ok [handleWord h, 1] (hostServed
          { s with agenda :=
            { s.agenda with
              list := (placeIn { e with due := due, anchor := due }
                (s.agenda.list.filter (fun x => x.handle.slot != h.slot))) } }))))

/-- HEAD completes with OK, the head's handle and its due, or with NOT_PENDING and no result word on an
empty list; QUERY completes with OK and the eight words of the part asked for, or with STALE or
NOT_PENDING and no result word. Neither changes anything else (R46, R47, R183, R184, R201). -/
def Obligations.QueryAndHeadOnlyRead : Prop :=
  (∀ s : State, hostGranted 0x06 s →
    (s.agenda.list = [] →
      exec (.headService .whole) s = .next (posted .notPending [] (hostServed s))) ∧
    (∀ e rest, s.agenda.list = e :: rest →
      exec (.headService .whole) s = .next
        (posted .ok [handleWord e.handle, loHalf e.due, hiHalf e.due] (hostServed s)))) ∧
  (∀ s : State, hostGranted 0x05 s →
    let h := handleOfWord s.port.params[0]
    (resolve h s = .stale →
      exec (.queryService .whole) s = .next (posted .stale [] (hostServed s))) ∧
    (resolve h s = .notPending →
      exec (.queryService .whole) s = .next (posted .notPending [] (hostServed s))) ∧
    (∀ e, resolve h s = .pending e →
      (s.port.params[1] = 0 → exec (.queryService .whole) s = .next (posted .ok
        [handleWord e.handle, loHalf e.due, hiHalf e.due, queryControl e,
         BitVec.ofNat 16 (widthOf e.job), BitVec.ofNat 16 (countOf e.repetition), e.tag,
         BitVec.ofNat 16 e.missed] (hostServed s))) ∧
      (s.port.params[1] = 1 → exec (.queryService .whole) s = .next (posted .ok
        [handleWord e.handle, loHalf e.anchor, hiHalf e.anchor,
         BitVec.ofNat 16 (originCode e.origin), BitVec.ofNat 16 (periodOf e.repetition % 65536),
         BitVec.ofNat 16 (periodOf e.repetition / 65536), 0, 0] (hostServed s))))) ∧
  (∀ e : Entry, (queryControl e).toNat =
    controlNumber (((jobLine e.job).map Fin.val).getD 0) (actionCode (jobAction e.job))
      (lateCode e.late) (optionCode e.option) +
    1024 * (if inReturn e.job then 1 else 0) + 2048 * (if hasPeriod e.repetition then 1 else 0) +
    4096 * (if hasCount e.repetition then 1 else 0))

/-- The service of ENGINE_RESET gives every block its engine-reset values, withdraws every claim, keeps
the timebase, the configuration, the group records, the generations, RESERVE, POOL_LOW_TH, IRQ_EN and
REJECT, clears every flag but TRIP0..TRIP3, and completes with OK and CMD_DONE (R49, R59, R85, R106,
R123, R142, R160, R170, R177, R185, R196). -/
def Obligations.EngineResetServiceResetsTheBlocks : Prop :=
  ∀ s : State, hostGranted 0x3F s → ∃ t : State, exec (.engineResetService .whole) s = .next t ∧
    t.timebase = s.timebase ∧ t.agenda = { s.agenda with list := [], free := allSlots } ∧
    t.arbiter.activity = none ∧ (∀ g : Fin 4, t.arbiter.purge[g] = false) ∧
    t.arbiter.apply = false ∧ t.arbiter.host = false ∧
    (∀ l : Fin 16, t.lines.lines[l] = { s.lines.lines[l] with active := false }) ∧
    (∀ p : Fin 8, t.lines.pairs[p] = { s.lines.pairs[p] with running := none, deferral := none }) ∧
    (∀ g : Fin 4, t.groups[g] = { s.groups[g] with purgePending := false }) ∧
    t.capture = { s.capture with queue := [], seq := 0, lost := 0 } ∧
    (∀ k : Fin 16, t.reactions.rows[k] = { s.reactions.rows[k] with
      state := (if s.reactions.rows[k].state = .off then .off else .armed), lastMatch := none }) ∧
    t.reactions.fifo = [] ∧ t.reactions.lost = 0 ∧ t.reactions.sel = s.reactions.sel ∧
    t.batch = { resetBatch with sel := s.batch.sel } ∧
    t.reports = { s.reports with queue := [], lost := 0 } ∧
    t.port = { s.port with waiting := false, result := .ok, held := none } ∧
    t.irq = { s.irq with flags := { noFlags with cmdDone := true, trip := s.irq.flags.trip } } ∧
    t.pins = s.pins ∧ t.dataOut = s.dataOut

/-- The purge of a group removes every entry on lines 4g..4g + 3 and no other, in list order: the slots join
the free queue's tail, a PULSE in RETURN is closed, each entry with a report option offers its PURGED
record, kept while there is room and else counted as lost, and a batch that watches one of them is
ABANDONED; the number removed becomes the group's last purge count, purge-pending is cleared, and the other
groups and the other claims stand (R41, R48, R55, R96, R149, R166; that the ABANDONED batch keeps its boundary:
log 24). -/
def Obligations.PurgeRemovesTheGroupsEntries : Prop :=
  ∀ (s : State) (g : Fin 4), nextClaim s = some (.purge g) →
    let onGroup : Entry → Bool := fun e =>
      match jobLine e.job with | some l => l.val / 4 == g.val | none => false
    ∃ t : State, exec (.purge g .whole) s = .next t ∧
      RemovedWhere onGroup .purged s t ∧
      t.groups[g] = { s.groups[g] with
        lastPurgeCount := (s.agenda.list.filter onGroup).length, purgePending := false } ∧
      (∀ j : Fin 4, j ≠ g → t.groups[j] = s.groups[j] ∧ t.arbiter.purge[j] = s.arbiter.purge[j]) ∧
      t.arbiter.purge[g] = false ∧ t.arbiter.activity = none ∧ t.arbiter.apply = s.arbiter.apply ∧
      t.arbiter.host = s.arbiter.host ∧ t.port = s.port ∧ t.reactions = s.reactions

/-- The expiry service takes the head out of the list, and it acts. For a one-shot entry, not a PULSE: its
slot joins the free queue, its line takes the request (a MARK has none), and the record of the act, final and
of the kind of R27 or R28, is offered where the option asks for it. Where the entry is the watched
boundary entry, the watch ends and the batch apply claim is raised, and the batch is not ABANDONED; where it
is not, batch and claim stand. All else stands (R27, R28, R31, R33, R34, R35, R36, R149, R166). -/
def Obligations.ExpiryOfOneShotActsAndEnds : Prop :=
  ∀ (s : State) (e : Entry) (rest : List Entry), nextClaim s = some .expiry →
    s.agenda.list = e :: rest →
    ∃ t : State, exec (.expiryService .whole) s = .next t ∧
      ActsNow e { s.agenda with list := rest } s t ∧
      (e.repetition = .oneShot → (∀ l w p, e.job ≠ .pulse l w p) →
        onlyExpiryEffects s t ∧
        t.agenda = { s.agenda with list := rest, free := s.agenda.free ++ [e.handle.slot] } ∧
        t.lines = (match e.job with | .drive l r => (request l r s).2.lines | _ => s.lines) ∧
        BoundaryActed e.handle s t ∧
        (e.option = .none → t.reports = s.reports ∧ t.irq = s.irq) ∧
        (e.option ≠ .none → Offered
          [{ kind := kindOfAct e.job e.due s, final := true, origin := e.origin, handle := some e.handle
             tag := e.tag, line := jobLine e.job, due := e.due, taken := s.timebase.time
             missed := e.missed }] s t))

/-- The expiry service of an entry whose act completes a repetition (not a PULSE, or a PULSE in RETURN): the
line takes the request of the act, and agenda and records are what R31 to R33 give. A next repetition at the
anchor plus the period that is not late is placed there, with the count one less and a PULSE back in ASSERT;
where it is late, FIRE skips to the first repetition that is not late, whose lead is below the period,
counting the skipped ones as missed, and an entry with a count ends where every remaining one is skipped; DROP
ends the entry, reported DROPPED with the late due; the last repetition ends it. The act's record, offered
under EVERY and where it ends the entry under FINAL, has the act's due, this service's TIME and the missed
count with the skips; before a DROPPED record it is not final. A watched entry, not a PULSE, has made its
boundary act: the apply claim is raised; a watched PULSE that its RETURN ends, as the last or DROPPED, leaves
the batch ABANDONED, and one that is placed again leaves it as it was (R27, R30 to R36, R149; the boundary
kept: log 24). -/
def Obligations.ExpiryOfPeriodicRepeats : Prop :=
  ∀ (s : State) (e : Entry) (rest : List Entry), nextClaim s = some .expiry →
    s.agenda.list = e :: rest → (∀ l w, e.job ≠ .pulse l w .assertAct) →
    let a : Agenda := { s.agenda with list := rest }
    ∃ (t : State) (rs : List Report), exec (.expiryService .whole) s = .next t ∧
      onlyExpiryEffects s t ∧ t.lines = linesAfterAct e.job s ∧
      Follows e (kindOfAct e.job e.due s) s.timebase.time a t.agenda rs ∧ Offered rs s t ∧
      (inReturn e.job = false → BoundaryActed e.handle s t) ∧
      (inReturn e.job = true → t.agenda = ended e a → BoundaryGone e.handle s t) ∧
      (inReturn e.job = true → t.agenda ≠ ended e a → batchStands s t)

/-- The expiry service of a PULSE. An ASSERT sends ACTIVE and, whatever the answer, moves the entry to RETURN at
the anchor plus the width; its record, under EVERY, is not final. A RETURN that is late by then is done at once
in the same service, with INACTIVE: what follows it, for a one-shot and for a periodic entry, its records after
the ASSERT's among them, is what R31 to R33 give for an entry in RETURN, with a missed count of 0 where the
ASSERT's record was offered (that record holds the count before the skips: the model's choice, log 29). A
RETURN that comes due sends INACTIVE and is followed the same way. An ASSERT is a boundary act: it raises the
batch apply claim and ends the watch, also where its service goes on to end the entry; a RETURN that ends a
watched entry, a one-shot's, the last of a count, or one whose next repetition is DROPPED, leaves the batch
ABANDONED, its boundary kept (log 24), and one after which the entry is placed again leaves it as it was (R27,
R29 to R36, R149). -/
def Obligations.ExpiryOfPulseAssertsAndReturns : Prop :=
  ∀ (s : State) (e : Entry) (rest : List Entry) (l : Fin 16) (w : Nat), nextClaim s = some .expiry →
    s.agenda.list = e :: rest →
    let now := s.timebase.time
    let a : Agenda := { s.agenda with list := rest }
    let ret := e.anchor + ticks w
    let asserted : List Report :=
      asked e.option [recordNow e (kindOfAct e.job e.due s) false e.due e.missed now]
    let inRet : Entry :=
      { e with
        due := ret, job := .pulse l w .returnAct
        missed := if e.option = .every then 0 else e.missed }
    ∃ t : State, exec (.expiryService .whole) s = .next t ∧ onlyExpiryEffects s t ∧
      (e.job = .pulse l w .assertAct → BoundaryActed e.handle s t) ∧
      (e.job = .pulse l w .assertAct → isLate ret now = false →
        t.lines = (request l .active s).2.lines ∧
        t.agenda = { s.agenda with list := placeIn inRet rest } ∧ Offered asserted s t) ∧
      (e.job = .pulse l w .assertAct → isLate ret now = true →
        let u := (request l .active s).2
        t.lines = (request l .inactive u).2.lines ∧
        (∃ rs, Follows inRet (kindOfAct inRet.job ret u) now a t.agenda rs ∧
          Offered (asserted ++ rs) s t) ∧
        (e.repetition = .oneShot → t.agenda = ended e a)) ∧
      (e.job = .pulse l w .returnAct →
        t.lines = (request l .inactive s).2.lines ∧
        (∃ rs, Follows e (kindOfAct e.job e.due s) now a t.agenda rs ∧ Offered rs s t) ∧
        (e.repetition = .oneShot ∨ (∃ p, e.repetition = .counted p 1) → t.agenda = ended e a) ∧
        (t.agenda = ended e a → BoundaryGone e.handle s t) ∧
        (t.agenda ≠ ended e a → batchStands s t))

/-- The service of a SCHEDULE reaction: the oldest record leaves the FIFO; with no slot free a NO_SLOT record
is offered and nothing else done; else a slot is allocated whatever RESERVE is, POOL_LOW is set where the free
count falls below its threshold, and an entry within the horizon is placed with the record's fields, one late
under FIRE acts at once as in an expiry service, and one late under DROP ends at once with its slot at the free
queue's tail, nothing done to any line and its DROPPED record, final, offered where the option asks for it. A
record offered at a full queue is lost and counted. No result is posted (R22, R23, R37, R39, R40, R57, R139,
R165, R166). -/
def Obligations.ReactionScheduleInserts : Prop :=
  ∀ (s : State) (r : PendingReaction) (more : List PendingReaction) (x : Template),
    nextClaim s = some .reaction → s.reactions.fifo = r :: more → r.kind = .schedule → r.template = x →
    let due : Time := r.time + x.delay.setWidth 32
    let job := jobOf x.line x.action x.width.toNat
    ∃ t : State, exec (.reactionSchedule .whole) s = .next t ∧
      t.reactions = { s.reactions with fifo := more } ∧ t.port = s.port ∧
      t.arbiter.activity = none ∧ t.timebase = s.timebase ∧ t.groups = s.groups ∧
      (s.agenda.free = [] → t.agenda = s.agenda ∧ t.lines = s.lines ∧
        t.irq.flags.poolLow = s.irq.flags.poolLow ∧
        Offered [{ kind := .noSlot, final := true, origin := .reaction r.row, handle := none, tag := x.tag
                   line := jobLine job, due := due, taken := s.timebase.time, missed := 0 }] s t) ∧
      (∀ slot free, s.agenda.free = slot :: free →
        let e : Entry :=
          { handle := { slot := slot, gen := genOf s slot + 1 }, due := due, anchor := due, job := job
            repetition := .oneShot, late := x.late, option := x.option, tag := x.tag
            origin := .reaction r.row, missed := 0 }
        let a : Agenda := { s.agenda with
          free := free, gens := s.agenda.gens.set slot.toFin (genOf s slot + 1) }
        t.irq.flags.poolLow = (s.irq.flags.poolLow || decide (free.length < s.agenda.poolLow)) ∧
        (isLate due s.timebase.time = true → x.late = .fire → ActsNow e a s t) ∧
        (isLate due s.timebase.time = false → t.lines = s.lines ∧ t.reports = s.reports ∧
          t.agenda = { a with list := placeIn e s.agenda.list }) ∧
        (isLate due s.timebase.time = true → x.late = .drop → t.lines = s.lines ∧
          t.agenda = { a with free := free ++ [slot] } ∧
          (x.option = .none → t.reports = s.reports ∧ t.irq.flags.rptLost = s.irq.flags.rptLost) ∧
          (x.option ≠ .none → Offered [recordNow e .dropped true due 0 s.timebase.time] s t)))

/-! ## Lines and pairs -/

/-- LINE_SET at a READY port: the line unit's answer is the result, OK, DEFERRED or BLOCKED; an action
other than ACTIVE, INACTIVE and TOGGLE is BAD_PARAM. With the pair's interlock off, a request is always
APPLIED and sets or flips that line alone. The group's state is not looked at (R71, R75, R186). -/
def Obligations.LineSetAnswers : Prop :=
  (∀ s : State, s.port.waiting = false → s.port.held = none →
    let code := s.port.params[7].toNat / 16 % 8
    let l : Fin 16 := Fin.ofNat 16 (s.port.params[7].toNat % 16)
    let r : Request := if code = 0 then .active else if code = 1 then .inactive else .toggle
    (code ≤ 2 → exec .lineSet s = .next
      (answeredAtOnce 0x08
        (match (request l r s).1 with
          | .applied => .ok | .deferred => .deferred | .blocked => .blocked) (request l r s).2)) ∧
    (3 ≤ code → exec .lineSet s = .next (answeredAtOnce 0x08 .badParam s))) ∧
  (∀ (s : State) (l : Fin 16) (r : Request), s.lines.pairs[pairOf l].interlock = false →
    request l r s = (.applied, { s with lines := { s.lines with lines := (s.lines.lines.set l
      { s.lines.lines[l] with active :=
        match r with | .active => true | .inactive => false | .toggle => !s.lines.lines[l].active }) } }))

/-- Requests on an interlocked pair, by the first case of R72 and R73 that holds, X being the line and Y
its partner, and TOGGLE by R74, on a pair with the interlock on and on one with it off. -/
def Obligations.InterlockedRequestTable : Prop :=
  ∀ (s : State) (x : Fin 16),
    let p := s.lines.pairs[pairOf x]
    let xActive : Prop := s.lines.lines[x].active = true
    let yActive : Prop := s.lines.lines[partnerOf x].active = true
    let xDeferred : Prop := ∃ d, p.deferral = some d ∧ d.side = sideOf x
    let yDeferred : Prop := ∃ d, p.deferral = some d ∧ d.side = otherSide (sideOf x)
    let setX : Bool → Pair → State := fun a q =>
      { s with lines :=
        { lines := s.lines.lines.set x { s.lines.lines[x] with active := a }
          pairs := s.lines.pairs.set (pairOf x) q } }
    (p.interlock = false → request x .toggle s = (.applied, setX (!s.lines.lines[x].active) p)) ∧
    (p.interlock = true →
    (xActive → request x .active s = (.applied, s)) ∧
    (¬ xActive → xDeferred → request x .active s = (.deferred, s)) ∧
    (¬ xActive → ¬ xDeferred → yActive ∨ yDeferred → request x .active s = (.blocked, s)) ∧
    (∀ w, ¬ xActive → ¬ xDeferred → ¬ yActive → ¬ yDeferred → p.running = some w →
      w.side = otherSide (sideOf x) →
      request x .active s = (.deferred, { s with lines := { s.lines with pairs :=
        (s.lines.pairs.set (pairOf x)
          { p with deferral := some { side := sideOf x, endTime := w.endTime } }) } })) ∧
    (¬ xActive → ¬ xDeferred → ¬ yActive → ¬ yDeferred →
      (∀ w, p.running = some w → w.side = sideOf x) →
      request x .active s = (.applied, setX true { p with running := none })) ∧
    (xDeferred → request x .inactive s = (.applied, { s with lines := { s.lines with pairs :=
      (s.lines.pairs.set (pairOf x) { p with deferral := none }) } })) ∧
    (¬ xDeferred → xActive → 1 ≤ p.guardTicks → request x .inactive s = (.applied,
      setX false { p with running := (some
        { side := sideOf x, endTime := s.timebase.time + ticks p.guardTicks }) })) ∧
    (¬ xDeferred → xActive → p.guardTicks = 0 → request x .inactive s = (.applied, setX false p)) ∧
    (¬ xDeferred → ¬ xActive → request x .inactive s = (.applied, s)) ∧
    (xActive ∨ xDeferred → request x .toggle s = request x .inactive s) ∧
    (¬ xActive → ¬ xDeferred → request x .toggle s = request x .active s))

/-- GUARD_END: a pair whose end time TIME has reached becomes IDLE, and its deferred line, if any,
ACTIVE, with the deferral removed; all else stands (R79, R80). A pair that is IDLE, or whose end time is
another, is not touched: the row then changes nothing (the model's, logs 3 and 4). -/
def Obligations.GuardEndActivatesTheDeferredLine : Prop :=
  ∀ (s : State) (p : Fin 8),
    let x := s.lines.pairs[p]
    (∀ w, x.running = some w → w.endTime = s.timebase.time → x.deferral = none →
      exec (.guardEnd p) s = .next { s with lines := { s.lines with pairs :=
        (s.lines.pairs.set p { x with running := none }) } }) ∧
    (∀ w d, x.running = some w → w.endTime = s.timebase.time → x.deferral = some d →
      exec (.guardEnd p) s = .next { s with lines :=
        { lines := (s.lines.lines.set (lineOn p d.side)
            { s.lines.lines[lineOn p d.side] with active := true })
          pairs := s.lines.pairs.set p { x with running := none, deferral := none } } }) ∧
    ((∀ w, x.running = some w → w.endTime ≠ s.timebase.time) → exec (.guardEnd p) s = .next s)

/-! ## Groups -/

/-- TRIP at a READY port: with a mask of groups 0..3, each group named answers its own request with
cause HOST (an entry in RUN, which sets its flag, drops the deferrals of its pairs and under PURGE
raises its purge claim; a cause added in TRIPPED; nothing in OFF), no line's intended level changes, and
the command completes with OK; a bit above the fourth is BAD_PARAM (R91, R92, R93, R100, R104, R188). -/
def Obligations.TripCommandTripsTheGroupsNamed : Prop :=
  ∀ s : State, s.port.waiting = false → s.port.held = none →
    (16 ≤ s.port.params[0].toNat → exec .trip s = .next (answeredAtOnce 0x12 .badParam s)) ∧
    (s.port.params[0].toNat < 16 → ∃ t : State, exec .trip s = .next t ∧
      TripRequests (fun g => s.port.params[0].getLsbD g.val) .host s t ∧
      t.port = { s.port with cmd := 0x12, waiting := false, result := .ok, held := none } ∧
      t.irq = { s.irq with flags := { s.irq.flags with
        cmdDone := true, trip := t.irq.flags.trip } } ∧
      t.reactions = s.reactions ∧ t.pins = s.pins)

/-- GROUP_START, GROUP_STOP and RELEASE at a READY port, by the tables of R98, R99 and R101 and their
order of cases; a group number above 3 is BAD_PARAM. Nothing but the group's state and, at a release,
its cause set changes: no intended level, guard, deferral or entry (R98, R99, R101, R187). -/
def Obligations.GroupCommandsAnswer : Prop :=
  ∀ s : State, s.port.waiting = false → s.port.held = none →
    (4 ≤ s.port.params[0].toNat →
      exec .groupStart s = .next (answeredAtOnce 0x10 .badParam s) ∧
      exec .groupStop s = .next (answeredAtOnce 0x11 .badParam s) ∧
      exec .release s = .next (answeredAtOnce 0x13 .badParam s)) ∧
    (∀ g : Fin 4, s.port.params[0].toNat = g.val →
      let x := s.groups[g]
      let held : Prop := (x.use0 = .level ∧ s.pins.trip[0] = false) ∨
        (x.use1 = .level ∧ s.pins.trip[1] = false)
      let withState : Group → State := fun y => { s with groups := s.groups.set g y }
      (x.state = .off → ¬ held → exec .groupStart s = .next
        (answeredAtOnce 0x10 .ok (withState { x with state := .run }))) ∧
      (x.state = .off → held → exec .groupStart s = .next (answeredAtOnce 0x10 .stillAsserted s)) ∧
      (x.state ≠ .off → exec .groupStart s = .next (answeredAtOnce 0x10 .wrongState s)) ∧
      (x.state = .run → exec .groupStop s = .next
        (answeredAtOnce 0x11 .ok (withState { x with state := .off }))) ∧
      (x.state ≠ .run → exec .groupStop s = .next (answeredAtOnce 0x11 .wrongState s)) ∧
      (x.state ≠ .tripped → exec .release s = .next (answeredAtOnce 0x13 .wrongState s)) ∧
      (x.state = .tripped → held →
        exec .release s = .next (answeredAtOnce 0x13 .stillAsserted s)) ∧
      (x.state = .tripped → ¬ held → x.purgePending = true →
        exec .release s = .next (answeredAtOnce 0x13 .purgePending s)) ∧
      (x.state = .tripped → ¬ held → x.purgePending = false →
        exec .release s = .next (answeredAtOnce 0x13 .ok
          (withState { x with state := .run, causes := noCauses }))))

/-- A fall of a trip pin sends each group whose use of it is LEVEL or EDGE a trip request with the pin's
cause, and no other group: the group answers by its state, and a trip entry sets its flag TRIPg, drops the
deferrals of its pairs and under PURGE raises its purge claim, with no intended level changed. A pin that has
fallen cannot fall again: its row then changes nothing (log 3). A rise changes nothing but the pin. That a
high pin falls by the row whatever samples of it are held is the model's choice (log 30). By samples, a fall
is seen at the second low sample after two high ones, with the same effects, and at no sample else; each sample
counts by R89 and changes no level (R89, R90, R91, R92, R93, R104). -/
def Obligations.TripPinsFallAndRise : Prop :=
  (∀ (s : State) (pin : Fin 2), s.pins.trip[pin] = true →
    ∃ t : State, exec (.tripPinFall pin) s = .next t ∧
      TripRequests (fun g => decide (useOf s.groups[g] pin ≠ .none)) (if pin = 0 then .pin0 else .pin1) s t ∧
      t.pins.trip = s.pins.trip.set pin false ∧ t.pins.inputs = s.pins.inputs ∧
      t.pins.tclk = s.pins.tclk ∧ t.port = s.port ∧ t.reactions = s.reactions ∧
      t.irq = { s.irq with flags := { s.irq.flags with trip := t.irq.flags.trip } } ∧
      exec (.tripPinFall pin) t = .next t) ∧
  (∀ (s : State) (pin : Fin 2), ∃ t : State, exec (.tripPinRise pin) s = .next t ∧
    t = { s with pins := t.pins } ∧ t.pins.trip = s.pins.trip.set pin true ∧
    t.pins.inputs = s.pins.inputs ∧ t.pins.tclk = s.pins.tclk) ∧
  (∀ (s : State) (pin : Fin 2),
    let x := s.pins.tripSamples[pin]
    let t := sampleTripPin pin s
    let counted : EdgeSamples :=
      if s.pins.trip[pin] = false then { x with after := min 2 (x.after + 1) }
      else if x.after = 0 then { x with before := min 2 (x.before + 1) }
      else { before := 1, after := 0 }
    t.pins = { s.pins with tripSamples := s.pins.tripSamples.set pin counted } ∧
    (s.pins.trip[pin] = false ∧ 2 ≤ x.before ∧ x.after = 1 →
      TripRequests (fun g => decide (useOf s.groups[g] pin ≠ .none)) (if pin = 0 then .pin0 else .pin1) s t ∧
      t.port = s.port ∧ t.reactions = s.reactions ∧
      t.irq = { s.irq with flags := { s.irq.flags with trip := t.irq.flags.trip } }) ∧
    (¬ (s.pins.trip[pin] = false ∧ 2 ≤ x.before ∧ x.after = 1) → t = { s with pins := t.pins }))

/-! ## Inputs -/

/-- A sample of an unfiltered enabled input that differs from its settled level is accepted at once: the
settled level follows, and where the edge select admits the edge, the capture is handed over to the reaction
table, and, where the input is queued and the queue has room, one record with TIME, the next sequence number
and "not filtered" joins the capture queue; an edge not admitted is not handed over and consumes no number;
at a full queue the offer is counted as lost and its number consumed. A sample of a disabled input is
followed and never captured (R107, R110, R112, R116, R117, R121). That each of the two rows is a sample of its
input whose level also becomes the pin's, and is the same sample by R110 whatever the input's kind, a filtered
one's level last sampled included, is the model's choice (log 20). -/
def Obligations.InputSamplesAreCaptured : Prop :=
  ∀ (s : State) (n : Fin 8) (level : Bool),
    let i := s.capture.inputs[n]
    let e : Edge := if level then .rise else .fall
    let now := s.timebase.time
    let seen : State := { s with pins := { s.pins with inputs := s.pins.inputs.set n level } }
    let next : Input → CaptureUnit := fun x =>
      { s.capture with inputs := s.capture.inputs.set n x }
    let changed : Input := { i with
      sampled := level, settled := level, candidate := level, runCount := 0 }
    let record : Capture :=
      { seq := s.capture.seq, line := n, edge := e, time := now, filtered := false }
    (∀ sel : EdgeSelect, admits sel e = true ↔
      sel = .both ∨ (sel = .rise ∧ level = true) ∨ (sel = .fall ∧ level = false)) ∧
    exec (.settledLevelFollowsPin n level) s = exec (.inputChange n level) s ∧
    (i.enable = true → i.filter ≠ 0 → exec (.inputChange n level) s = .next
      { seen with capture := next { i with sampled := level } }) ∧
    (i.enable = false → exec (.settledLevelFollowsPin n level) s = .next
      { seen with capture := next { i with sampled := level, settled := level } }) ∧
    (i.enable = true → i.filter = 0 → level = i.settled → exec (.inputChange n level) s = .next
      { seen with capture := next { i with sampled := level } }) ∧
    (i.enable = true → i.filter = 0 → level ≠ i.settled → admits i.edge e = false →
      exec (.inputChange n level) s = .next { seen with capture := next changed }) ∧
    (i.enable = true → i.filter = 0 → level ≠ i.settled → admits i.edge e = true →
      let handed : State := handOff n e now { seen with capture := next changed }
      (i.queued = false → exec (.inputChange n level) s = .next handed) ∧
      (i.queued = true → s.capture.queue.length < 32 →
        exec (.inputChange n level) s = .next { handed with capture :=
          { next changed with seq := s.capture.seq + 1, queue := s.capture.queue ++ [record] } }) ∧
      (i.queued = true → 32 ≤ s.capture.queue.length →
        exec (.inputChange n level) s = .next { handed with
          capture :=
            { next changed with seq := s.capture.seq + 1, lost := min 255 (s.capture.lost + 1) }
          irq := { handed.irq with flags := { handed.irq.flags with capLost := true } } }))

/-- A sample moment. For one filtered input: a sample equal to the candidate adds 1 to the run, stopping at
the filter; another restarts the run at TIME; when the run is complete and its level differs from the settled
one, the change is accepted: where its edge is admitted, the capture is handed over with the time the run
began, and its record, where the input is queued, carries that time and "filtered", or is lost and counted at
a full queue; until then nothing but the run changes. For any filtered inputs: each takes its sample; the
captures of those that settle by an admitted edge are handed over in ascending order, and those of queued
inputs are offered in that order, each with its own sequence number, kept while there is room and else lost
and counted. A sample of one filtered input beside others does the same of that input. That the row is a sample
moment at any sample phase and leaves the phase at 0, and that each
filtered input's pin, and no other, takes the row's level, is the model's choice (logs 16 and 20), and so is
that an equal sample leaves the run start time where no sample of the run was counted before (log 32; R109, R111,
R112, R113, R115, R116, R117, R121). -/
def Obligations.FilterRunsSettleTheInput : Prop :=
  (∀ (s : State) (n : Fin 8) (levels : BitVec 8),
    let i := s.capture.inputs[n]
    let level := levels.getLsbD n.val
    let same : Prop := level = i.candidate
    i.enable = true → 2 ≤ i.filter → i.filter ≤ 8 → i.runCount ≤ i.filter →
    (∀ m : Fin 8, m ≠ n → isFiltered s.capture.inputs[m] = false) →
    ∀ x : Input, x = { i with
        sampled := level, candidate := level
        runCount := if level = i.candidate then min i.filter (i.runCount + 1) else 1
        runStart := if level = i.candidate then i.runStart else s.timebase.time } →
    let seen : State := { s with pins := { s.pins with inputs := s.pins.inputs.set n level } }
    let next : Input → CaptureUnit := fun y =>
      { s.capture with inputs := s.capture.inputs.set n y, samplePhase := 0 }
    (x.runCount < i.filter ∨ level = i.settled →
      exec (.filterSample levels) s = .next { seen with capture := next x }) ∧
    (x.runCount = i.filter → level ≠ i.settled →
      admits i.edge (if level then .rise else .fall) = false →
      exec (.filterSample levels) s = .next { seen with capture := next { x with settled := level } }) ∧
    (x.runCount = i.filter → level ≠ i.settled →
      admits i.edge (if level then .rise else .fall) = true →
      let handed : State := handOff n (if level then .rise else .fall) x.runStart
        { seen with capture := next { x with settled := level } }
      (i.queued = false → exec (.filterSample levels) s = .next handed) ∧
      (i.queued = true → s.capture.queue.length < 32 →
        exec (.filterSample levels) s = .next { handed with capture :=
          { next { x with settled := level } with
            seq := s.capture.seq + 1
            queue := s.capture.queue ++
              [{ seq := s.capture.seq, line := n, edge := if level then .rise else .fall
                 time := x.runStart, filtered := true }] } }) ∧
      (i.queued = true → 32 ≤ s.capture.queue.length →
        exec (.filterSample levels) s = .next { handed with
          capture :=
            { next { x with settled := level } with
              seq := s.capture.seq + 1, lost := min 255 (s.capture.lost + 1) }
          irq := { handed.irq with flags := { handed.irq.flags with capLost := true } } }))) ∧
  (∀ (s : State) (levels : BitVec 8),
    let old : Fin 8 → Input := fun n => s.capture.inputs[n]
    let level : Fin 8 → Bool := fun n => levels.getLsbD n.val
    let edge : Fin 8 → Edge := fun n => if level n then .rise else .fall
    let filtered : Fin 8 → Bool := fun n => (old n).enable && (old n).filter != 0
    let run : Fin 8 → Input := fun n => { old n with
      sampled := level n, candidate := level n
      runCount := if level n = (old n).candidate then min (old n).filter ((old n).runCount + 1) else 1
      runStart := if level n = (old n).candidate then (old n).runStart else s.timebase.time }
    let settles : Fin 8 → Bool := fun n =>
      filtered n && decide ((old n).filter ≤ (run n).runCount) && level n != (old n).settled
    let captured : List (Fin 8) :=
      (List.finRange 8).filter fun n => settles n && admits (old n).edge (edge n)
    let records : List Capture :=
      (captured.filter fun n => (old n).queued).mapIdx fun k n =>
        { seq := s.capture.seq + BitVec.ofNat 8 k, line := n, edge := edge n, time := (run n).runStart
          filtered := true }
    let room := 32 - s.capture.queue.length
    let handed : State := captured.foldl (fun u n => handOff n (edge n) (run n).runStart u) s
    ∃ t : State, exec (.filterSample levels) s = .next t ∧
      (∀ n : Fin 8, t.capture.inputs[n] =
        if filtered n then { run n with settled := if settles n then level n else (old n).settled }
        else old n) ∧
      t.capture.queue = s.capture.queue ++ records.take room ∧
      t.capture.seq = s.capture.seq + BitVec.ofNat 8 records.length ∧
      (s.capture.lost ≤ 255 →
        t.capture.lost = min 255 (s.capture.lost + (records.length - room))) ∧
      t.irq.flags.capLost = (s.irq.flags.capLost || decide (room < records.length)) ∧
      t.capture.samplePhase = 0 ∧ t.capture.filterInt = s.capture.filterInt ∧
      t.capture.threshold = s.capture.threshold ∧
      (∀ n : Fin 8, t.pins.inputs[n] = if filtered n then level n else s.pins.inputs[n]) ∧
      t = { handed with
        capture := t.capture, pins := { s.pins with inputs := t.pins.inputs }
        irq := { handed.irq with flags := { handed.irq.flags with capLost := t.irq.flags.capLost } } }) ∧
  (∀ (s : State) (n : Fin 8) (level : Bool),
    let i := s.capture.inputs[n]
    i.enable = true → 2 ≤ i.filter → i.filter ≤ 8 → i.runCount ≤ i.filter →
    let e : Edge := if level then .rise else .fall
    let x : Input := { i with
      sampled := level, candidate := level
      runCount := if level = i.candidate then min i.filter (i.runCount + 1) else 1
      runStart := if level = i.candidate then i.runStart else s.timebase.time }
    let next : Input → CaptureUnit := fun y => { s.capture with inputs := s.capture.inputs.set n y }
    let accepted : CaptureUnit := next { x with settled := level }
    let t := filterStep n level s
    (x.runCount < i.filter ∨ level = i.settled → t = { s with capture := next x }) ∧
    (x.runCount = i.filter → level ≠ i.settled → admits i.edge e = false →
      t = { s with capture := accepted }) ∧
    (x.runCount = i.filter → level ≠ i.settled → admits i.edge e = true →
      let handed : State := handOff n e x.runStart { s with capture := accepted }
      (i.queued = false → t = handed) ∧
      (i.queued = true → s.capture.queue.length < 32 → t = { handed with capture :=
        { accepted with
          seq := s.capture.seq + 1
          queue := s.capture.queue ++
            [{ seq := s.capture.seq, line := n, edge := e, time := x.runStart, filtered := true }] } }) ∧
      (i.queued = true → 32 ≤ s.capture.queue.length → t = { handed with
        capture := { accepted with seq := s.capture.seq + 1, lost := min 255 (s.capture.lost + 1) }
        irq := { handed.irq with flags := { handed.irq.flags with capLost := true } } })))

/-- The queues' registers. CAP_HEAD0..2 and RPT_HEAD0..7 show the fields of the oldest record in their places,
an absent handle and an absent line as 0, and read 0 with the queue empty. A pop removes the oldest record and
nothing else, or is refused with QUEUE_EMPTY; a write of a statistics register clears its lost counter and
nothing else; a threshold is taken in its range or refused with RANGE. FLAGS shows each flag at its bit by the
table of R196 and nothing else; a write of it clears the flags whose bits are 1, leaves the others and changes
nothing else (R115, R118, R119, R120, R137, R161, R167, R168, R169,
R196, R201, R204). -/
def Obligations.QueueAndFlagRegisterWrites : Prop :=
  ∀ (s : State) (v : Word),
    (let f := s.irq.flags
      let w := readWord s 0x04
      w.getLsbD 0 = f.cmdDone ∧ w.getLsbD 1 = f.batchEnd ∧
      (∀ g : Fin 4, w.getLsbD (2 + g.val) = f.trip[g]) ∧ w.getLsbD 6 = f.capLost ∧
      w.getLsbD 7 = f.rptLost ∧ w.getLsbD 8 = f.reactLost ∧ w.getLsbD 9 = f.poolLow ∧
      w.getLsbD 10 = f.busReject ∧ w.toNat < 2048) ∧
    (∃ f : Flags,
      (let t : State := { s with irq := { s.irq with flags := f } };
        exec (.flagsWrite v) s = .next t ∧ readWord t 0x04 = readWord s 0x04 &&& ~~~v) ∧
      ∀ n : Fin 11, flagAt f n = (flagAt s.irq.flags n && !v.getLsbD n.val)) ∧
    (s.capture.queue = [] → exec .capPop s = .next (refusedWrite .queueEmpty 0x4E s)) ∧
    (∀ r rest, s.capture.queue = r :: rest → exec .capPop s = .next
      { s with capture := { s.capture with queue := rest } }) ∧
    (s.reports.queue = [] → exec .rptPop s = .next (refusedWrite .queueEmpty 0x5A s)) ∧
    (∀ r rest, s.reports.queue = r :: rest → exec .rptPop s = .next
      { s with reports := { s.reports with queue := rest } }) ∧
    exec .capStatWrite s = .next { s with capture := { s.capture with lost := 0 } } ∧
    exec .rptStatWrite s = .next { s with reports := { s.reports with lost := 0 } } ∧
    exec .reactStatWrite s = .next { s with reactions := { s.reactions with lost := 0 } } ∧
    exec (.capThWrite v) s = .next
      (if 1 ≤ v.toNat ∧ v.toNat ≤ 32 then { s with capture := { s.capture with threshold := v.toNat } }
        else refusedWrite .range 0x49 s) ∧
    exec (.rptThWrite v) s = .next
      (if 1 ≤ v.toNat ∧ v.toNat ≤ 64 then { s with reports := { s.reports with threshold := v.toNat } }
        else refusedWrite .range 0x50 s) ∧
    (s.capture.queue = [] → readWord s 0x4B = 0 ∧ readWord s 0x4C = 0 ∧ readWord s 0x4D = 0) ∧
    (∀ r rest, s.capture.queue = r :: rest →
      (readWord s 0x4B).toNat = r.seq.toNat + 256 * r.line.val +
        2048 * (match r.edge with | .rise => 0 | .fall => 1) + 4096 * (if r.filtered then 1 else 0) ∧
      readWord s 0x4C = loHalf r.time ∧ readWord s 0x4D = hiHalf r.time) ∧
    (s.reports.queue = [] → ∀ k : Fin 8, readWord s (BitVec.ofNat 7 (0x52 + k.val)) = 0) ∧
    (∀ r rest, s.reports.queue = r :: rest →
      (readWord s 0x52).toNat =
        (match r.kind with
          | .fired => 1 | .late => 2 | .deferred => 3 | .blocked => 4 | .suppressed => 5 | .dropped => 6
          | .cancelled => 7 | .purged => 8 | .noSlot => 9) +
        16 * (if r.final then 1 else 0) + 32 * (if r.handle.isSome then 1 else 0) +
        64 * (if r.line.isSome then 1 else 0) +
        128 * (match r.line with | some l => l.val | none => 0) +
        2048 * (match r.origin with | .host => 0 | .batch => 1 | .reaction k => 16 + k.val) ∧
      readWord s 0x53 = (match r.handle with | some h => handleWord h | none => 0) ∧
      readWord s 0x54 = r.tag ∧ readWord s 0x55 = loHalf r.due ∧ readWord s 0x56 = hiHalf r.due ∧
      readWord s 0x57 = loHalf r.taken ∧ readWord s 0x58 = hiHalf r.taken ∧
      (r.missed ≤ 65535 → (readWord s 0x59).toNat = r.missed))

/-- CAP_STAT, whole: it shows the number of records and the lost counter; a write clears the counter and
leaves queue and flag; an overflow and a write leave the flag set in both orders, with the counter 0 if
the overflow came first and 1 if the write did (R119). -/
def Obligations.CaptureStatistics : Prop :=
  (∀ s : State, CapacityInv s →
    (readWord s 0x4A).toNat = s.capture.queue.length + 256 * s.capture.lost) ∧
  (∀ (s : State) (v : Word),
    exec .capStatWrite s = .next { s with capture := { s.capture with lost := 0 } } ∧
    exec (.registerWrite 0x4A v) s = exec .capStatWrite s) ∧
  (∀ (s : State) (n : Fin 8) (e : Edge) (time : Time) (filtered : Bool),
    s.capture.queue.length = 32 →
    let overflowFirst := writeCapStat (offerCapture n e time filtered s)
    let writeFirst := offerCapture n e time filtered (writeCapStat s)
    overflowFirst.capture.lost = 0 ∧ writeFirst.capture.lost = 1 ∧
    overflowFirst.capture.queue = s.capture.queue ∧ writeFirst.capture.queue = s.capture.queue ∧
    overflowFirst.irq.flags.capLost = true ∧ writeFirst.irq.flags.capLost = true)

/-! ## Reactions -/

/-- A capture handed over is compared with every row in ascending order: each row that is ARMED, on its
line, admitting its edge and not in holdoff takes its time as last match and, if one-shot, is SPENT; the
records of the SCHEDULE and CANCEL_TAG rows among them, each with row, kind, capture time, a copy of the row's
template and one of its tag, join the FIFO in row order while it holds fewer than 8, and each beyond is lost and
counted; other rows stand (that the field a record's kind does not use is a copy of the row's too is the model's
choice, log 28). A TRIP row among them sends each group of its mask a trip request with cause REACTION, at once:
the group answers by its state, an entry sets its flag, drops the deferrals of its pairs and under PURGE raises
its purge claim, and no line's intended level changes (R132, R133, R134, R135, R136, R138). -/
def Obligations.HandOffMatchesTheTable : Prop :=
  ∀ (s : State) (n : Fin 8) (e : Edge) (time : Time),
    let hit : Fin 16 → Bool := fun k =>
      let r := s.reactions.rows[k]
      decide (r.state = .armed) && decide (r.input = n) && admits r.edge e &&
        !(match r.lastMatch with
          | some m => decide ((time - m).toNat < r.holdoff.toNat) | none => false)
    let record : Fin 16 → PendingKind → PendingReaction := fun k kind =>
      let r := s.reactions.rows[k]
      { row := k, kind := kind, time := time, template := r.template, tag := r.template.tag }
    let offered : List PendingReaction :=
      (List.finRange 16).filterMap fun k =>
        let r := s.reactions.rows[k]
        if hit k then
          (match r.kind with
            | .schedule => some (record k .schedule)
            | .cancelTag => some (record k .cancelTag)
            | .trip => none)
        else none
    let room := 8 - s.reactions.fifo.length
    let t := handOff n e time s
    (∀ k : Fin 16, t.reactions.rows[k] =
      if hit k then { s.reactions.rows[k] with
        lastMatch := some time
        state := if s.reactions.rows[k].oneShot then .spent else s.reactions.rows[k].state }
      else s.reactions.rows[k]) ∧
    t.reactions.fifo = s.reactions.fifo ++ offered.take room ∧
    (s.reactions.lost ≤ 255 →
      t.reactions.lost = min 255 (s.reactions.lost + (offered.length - room))) ∧
    t.irq.flags.reactLost = (s.irq.flags.reactLost || decide (room < offered.length)) ∧
    TripRequests (fun g => (List.finRange 16).any fun k =>
        hit k && decide (s.reactions.rows[k].kind = .trip) && s.reactions.rows[k].groupMask.getLsbD g.val)
      .reaction s t ∧
    t.port = s.port ∧ t.pins = s.pins

/-! ## Batches -/

/-- The staging commands at a READY port, with no apply under way, by the table of R145: an edit joins an
OPEN batch of fewer than 16, begins a new one in EMPTY and in an end state, whose results it clears, and
is refused in a full or an ARMED batch; a BATCH_INSERT that fails a check of R178 is BAD_PARAM and leaves
the batch (R144, R145, R146, R189). -/
def Obligations.StagingCommandsAnswer : Prop :=
  ∀ s : State, s.port.waiting = false → s.port.held = none → ¬ applying s →
    let b := s.batch
    let answer : Word → Edit → State := fun code e =>
      match b.state with
      | .armed => answeredAtOnce code .batchState s
      | .opened =>
        if b.staging.length < 16 then
          answeredAtOnce code .ok { s with batch := { b with staging := b.staging ++ [e] } }
        else answeredAtOnce code .batchFull s
      | _ => answeredAtOnce code .ok
          { s with batch := { resetBatch with state := .opened, staging := [e], sel := b.sel } }
    let h := handleOfWord s.port.params[0]
    (insertParamsOk s.port.params = false →
      exec .batchInsert s = .next (answeredAtOnce 0x20 .badParam s)) ∧
    (∀ i, insertionOf s.port.params = some i →
      exec .batchInsert s = .next (answer 0x20 (.insert i))) ∧
    exec .batchCancel s = .next (answer 0x21 (.cancel h)) ∧
    exec .batchRetime s = .next
      (answer 0x22 (.retime h (ofHalves s.port.params[1] s.port.params[2])))

/-- BATCH_COMMIT and BATCH_DISCARD at a READY port. Another mode than NOW and ENTRY is BAD_PARAM. While no apply
is under way, at an IDLE agenda and beside any other service: a commit with NOW is answered at once, and arms an
OPEN batch and raises the apply claim, or is BATCH_STATE; a discard is answered at once, and empties an OPEN
or ARMED batch, withdrawing its claim or its watch, or is refused in an end state. At an IDLE agenda a commit
with ENTRY arms an OPEN batch where the handle names a pending entry and the watch begins, or is STALE,
NOT_PENDING or BATCH_STATE (R147, R148, R156, R176, R190, R191). -/
def Obligations.CommitAndDiscardAnswer : Prop :=
  ∀ s : State, s.port.waiting = false → s.port.held = none →
    let b := s.batch
    let mode := s.port.params[0].toNat
    let h := handleOfWord s.port.params[1]
    (2 ≤ mode → exec .batchCommit s = .next (answeredAtOnce 0x23 .badParam s)) ∧
    (¬ applying s →
      (mode = 0 → b.state ≠ .opened →
        exec .batchCommit s = .next (answeredAtOnce 0x23 .batchState s)) ∧
      (mode = 0 → b.state = .opened → exec .batchCommit s = .next (answeredAtOnce 0x23 .ok
        { s with batch := { b with state := .armed, boundary := some .now }
                 arbiter := { s.arbiter with apply := true } })) ∧
      (b.state = .empty → exec .batchDiscard s = .next (answeredAtOnce 0x24 .ok s)) ∧
      (b.state = .opened → exec .batchDiscard s = .next (answeredAtOnce 0x24 .ok
        { s with batch := { resetBatch with sel := b.sel } })) ∧
      (b.state = .armed → exec .batchDiscard s = .next (answeredAtOnce 0x24 .ok
        { s with batch := { resetBatch with sel := b.sel }
                 arbiter := { s.arbiter with apply := false } })) ∧
      (b.state = .applied ∨ b.state = .failed ∨ b.state = .abandoned →
        exec .batchDiscard s = .next (answeredAtOnce 0x24 .batchState s))) ∧
    (s.arbiter.activity = none → mode = 1 →
      (b.state ≠ .opened → exec .batchCommit s = .next (answeredAtOnce 0x23 .batchState s)) ∧
      (b.state = .opened →
        (resolve h s = .stale → exec .batchCommit s = .next (answeredAtOnce 0x23 .stale s)) ∧
        (resolve h s = .notPending → exec .batchCommit s = .next (answeredAtOnce 0x23 .notPending s)) ∧
        (∀ e, resolve h s = .pending e → exec .batchCommit s = .next (answeredAtOnce 0x23 .ok
          { s with batch := { b with state := .armed, boundary := some (.entry h), watch := some h } }))))

/-- Held batch commands. A commit with ENTRY taken while a service other than the apply runs, and every
batch command taken while the apply runs, leaves the port WAITING and changes nothing else (one that fails its
parameter checks is BAD_PARAM at once); it is answered when the agenda is IDLE again, against the state the
service left: the commit with ENTRY by R148; after an apply, a staging command begins a new batch by R145, a
commit finds no OPEN batch and a discard an end state, so each is BATCH_STATE. Until the agenda is IDLE the
answer does not come: its row then changes nothing (log 3). That the answer is an event of its own after the
service's end is the model's choice (log 31; R145, R147, R148, R150, R156, R157, R176, R189). -/
def Obligations.HeldCommandsAnsweredAtTheEnd : Prop :=
  (∀ s : State, s.port.waiting = false →
    let held : Held → Word → State := fun why code => { s with port :=
      { s.port with cmd := code, result := .none, waiting := true, held := some why } }
    let mode := s.port.params[0].toNat
    (applying s →
      (insertParamsOk s.port.params = true → exec .batchInsert s = .next (held .duringApply 0x20)) ∧
      (insertParamsOk s.port.params = false →
        exec .batchInsert s = .next (answeredAtOnce 0x20 .badParam s)) ∧
      exec .batchCancel s = .next (held .duringApply 0x21) ∧
      exec .batchRetime s = .next (held .duringApply 0x22) ∧
      (mode ≤ 1 → exec .batchCommit s = .next (held .duringApply 0x23)) ∧
      (2 ≤ mode → exec .batchCommit s = .next (answeredAtOnce 0x23 .badParam s)) ∧
      exec .batchDiscard s = .next (held .duringApply 0x24)) ∧
    (s.arbiter.activity ≠ none → ¬ applying s → mode = 1 →
      exec .batchCommit s = .next (held .commitEntry 0x23))) ∧
  (∀ s : State, s.arbiter.activity ≠ none →
    exec .commitEntryAnswer s = .next s ∧ exec .heldBatchAnswer s = .next s) ∧
  (∀ s : State, s.arbiter.activity = none →
    let b := s.batch
    let h := handleOfWord s.port.params[1]
    let begun : Edit → State := fun e => posted .ok []
      { s with batch := { resetBatch with state := .opened, staging := [e], sel := b.sel } }
    (s.port.held = some .duringApply → b.state = .applied ∨ b.state = .failed →
      (s.port.cmd = 0x20 → ∀ i, insertionOf s.port.params = some i →
        exec .heldBatchAnswer s = .next (begun (.insert i))) ∧
      (s.port.cmd = 0x21 → exec .heldBatchAnswer s = .next
        (begun (.cancel (handleOfWord s.port.params[0])))) ∧
      (s.port.cmd = 0x22 → exec .heldBatchAnswer s = .next
        (begun (.retime (handleOfWord s.port.params[0])
          (ofHalves s.port.params[1] s.port.params[2])))) ∧
      (s.port.cmd = 0x23 → s.port.params[0].toNat ≤ 1 →
        exec .heldBatchAnswer s = .next (posted .batchState [] s)) ∧
      (s.port.cmd = 0x24 → exec .heldBatchAnswer s = .next (posted .batchState [] s))) ∧
    (s.port.held = some .commitEntry → s.port.cmd = 0x23 → s.port.params[0] = 1 →
      (b.state ≠ .opened → exec .commitEntryAnswer s = .next (posted .batchState [] s)) ∧
      (b.state = .opened →
        (resolve h s = .stale → exec .commitEntryAnswer s = .next (posted .stale [] s)) ∧
        (resolve h s = .notPending → exec .commitEntryAnswer s = .next (posted .notPending [] s)) ∧
        (∀ e, resolve h s = .pending e → exec .commitEntryAnswer s = .next (posted .ok []
          { s with batch := { b with state := .armed, boundary := some (.entry h), watch := some h } })))))

/-- The batch apply takes effect for all its edits or for none. The edits are judged in index order, each
against the agenda that the earlier ones leave, by the table of R151; the slot check is made once, for all the
INSERT edits together. Where one fails, the batch ends FAILED with the index and the reason of the first that
does, its outcome that reason and every other NONE, its boundary kept (log 24), and nothing changes outside
the batch and BATCH_END. An edit is made as the service of the host's command of its kind: an INSERT takes the
oldest free slot, and its entry, of origin BATCH, is placed or under FIRE acts at once; a CANCEL takes the
entry out and frees its slot, closes a PULSE in RETURN, offers the CANCELLED record and tells of the
departure; a RETIME places the entry at the new due or under FIRE has it act there at once. Where none fails,
the batch ends APPLIED: agenda, lines and reports are those that all the edits leave, made in index order, and
each result is OK with its handle, PENDING or DONE: the first edit is made, and the others on the agenda it
leaves, the slot check standing until the first INSERT has passed it, the handles and the work following one
another. A batch of one INSERT within the horizon that passes the
slot check is APPLIED, its entry of origin BATCH placed and its handle recorded with PENDING (R150 to R155,
R158). -/
def Obligations.BatchAppliesAllEditsOrNone : Prop :=
  (∀ (now : Time) (check : Option BatchReason) (a : Agenda),
    (∀ i : Insertion, (makeEdit now check (.insert i) a = .error .late ↔
        isLate i.due now = true ∧ i.late = .drop ∨
          ¬ (isLate i.due now = true ∧ i.late = .drop) ∧ check = some .late) ∧
      (∀ r, ¬ (isLate i.due now = true ∧ i.late = .drop) → check = some r →
        makeEdit now check (.insert i) a = .error r) ∧
      (∀ slot free, ¬ (isLate i.due now = true ∧ i.late = .drop) → check = none →
        a.free = slot :: free →
        let h : Handle := { slot := slot, gen := a.gens[slot.toFin] + 1 }
        let e : Entry :=
          { handle := h, due := i.due, anchor := i.due, job := i.job, repetition := i.repetition
            late := i.late, option := i.option, tag := i.tag, origin := .batch, missed := 0 }
        let rest : Agenda := { a with free := free, gens := a.gens.set slot.toFin h.gen }
        (isLate i.due now = false → makeEdit now check (.insert i) a =
          .ok (h, { rest with list := placeIn e a.list }, [.allocated free.length])) ∧
        (isLate i.due now = true → makeEdit now check (.insert i) a =
          .ok (h, (act e now rest).1, .allocated free.length :: (act e now rest).2)))) ∧
    (∀ (h : Handle) (due : Time),
      (resolveIn h a = .stale → makeEdit now check (.cancel h) a = .error .stale ∧
        makeEdit now check (.retime h due) a = .error .stale) ∧
      (resolveIn h a = .notPending → makeEdit now check (.cancel h) a = .error .notPending ∧
        makeEdit now check (.retime h due) a = .error .notPending) ∧
      (∀ e, resolveIn h a = .pending e →
        let others : Agenda := { a with list := a.list.eraseP (fun x => x.handle.slot == h.slot) }
        let moved : Entry := { e with due := due, anchor := due }
        makeEdit now check (.cancel h) a = .ok (h, { others with free := a.free ++ [h.slot] },
          (match e.job with
            | .pulse l _ .returnAct => [Task.request l .inactive none]
            | _ => []) ++
          (asked e.option [recordNow e .cancelled true e.due e.missed now]).map Task.offer ++
          [.gone e.handle]) ∧
        (inReturn e.job = true → makeEdit now check (.retime h due) a = .error .wrongState) ∧
        (inReturn e.job = false → isLate due now = true → e.late = .drop →
          makeEdit now check (.retime h due) a = .error .late) ∧
        (inReturn e.job = false → isLate due now = true → e.late = .fire →
          makeEdit now check (.retime h due) a = .ok (h, act moved now others)) ∧
        (inReturn e.job = false → isLate due now = false →
          makeEdit now check (.retime h due) a =
            .ok (h, { others with list := placeIn moved others.list }, []))))) ∧
  (∀ (now : Time) (check : Option BatchReason) (k : Nat) (a : Agenda),
    makeEdits now check [] k a = .ok ([], a, []) ∧
    ∀ (e : Edit) (es : List Edit),
      (∀ r, makeEdit now check e a = .error r → makeEdits now check (e :: es) k a = .error (k, r)) ∧
      (∀ h w, makeEdit now check e a = .ok (h, w) →
        let others := makeEdits now (match e with | .insert _ => none | _ => check) es (k + 1) w.1
        (∀ x, others = .error x → makeEdits now check (e :: es) k a = .error x) ∧
        (∀ hs v, others = .ok (hs, v) →
          makeEdits now check (e :: es) k a = .ok (h :: hs, v.1, w.2 ++ v.2)))) ∧
  (∀ s : State, runTasks [] s = s ∧
    (∀ x xs, runTasks (x :: xs) s = runTasks xs (runTasks [x] s)) ∧
    (∀ r, Offered [r] s (runTasks [.offer r] s)) ∧
    (∀ l a, runTasks [.request l a none] s = (request l a s).2)) ∧
  ∀ s : State, nextClaim s = some .apply →
    let edits := s.batch.staging
    let now := s.timebase.time
    let inserts := edits.filter (fun e => match e with | .insert _ => true | _ => false)
    let free := s.agenda.free.length
    let check : Option BatchReason :=
      if free < inserts.length then some .noSlot
      else if free - inserts.length < s.agenda.reserve then some .reserve else none
    (∀ k r, makeEdits now check edits 0 s.agenda = .error (k, r) →
      (k < edits.length ∧ ∃ hs w e, makeEdits now check (edits.take k) 0 s.agenda = .ok (hs, w) ∧
        edits[k]? = some e ∧
        makeEdit now (if (edits.take k).any isInsertEdit then none else check) e w.1 = .error r) ∧
      exec (.batchApply .whole) s = .next
        { s with
          batch := { s.batch with
            state := .failed, failing := k, reason := some r
            results := (List.range edits.length).map fun n =>
              { outcome := if n = k then reasonResult r else .none, disposition := none, handle := none } }
          arbiter := { s.arbiter with apply := false, activity := none }
          irq := { s.irq with flags := { s.irq.flags with batchEnd := true } } }) ∧
    (∀ hs w, makeEdits now check edits 0 s.agenda = .ok (hs, w) → s.batch.watch = none →
      hs.length = edits.length ∧
      exec (.batchApply .whole) s = .next
        { s with
          agenda := w.1
          lines := (runTasks w.2 s).lines
          reports := (runTasks w.2 s).reports
          batch := { s.batch with
            state := .applied, failing := 0, reason := none
            results := List.zipWith (fun e h =>
              { outcome := .ok
                disposition := (match e with
                  | .cancel _ => none
                  | _ => some (if isPending h w.1 then .pending else .done))
                handle := some h }) edits hs }
          arbiter := { s.arbiter with apply := false, activity := none }
          irq := { (runTasks w.2 s).irq with
            flags := { (runTasks w.2 s).irq.flags with batchEnd := true } } }) ∧
    (∀ (i : Insertion) (slot : BitVec 8) (rest : List (BitVec 8)), edits = [.insert i] →
      isLate i.due now = false → s.agenda.free = slot :: rest → s.agenda.reserve ≤ rest.length →
      let h : Handle := { slot := slot, gen := genOf s slot + 1 }
      ∃ t : State, exec (.batchApply .whole) s = .next t ∧
      t.batch.state = .applied ∧
      (SlotInv s →
        t.batch.results = [{ outcome := .ok, disposition := some .pending, handle := some h }]) ∧
      t.agenda = { s.agenda with
        list := (placeIn
          { handle := h, due := i.due, anchor := i.due, job := i.job, repetition := i.repetition
            late := i.late, option := i.option, tag := i.tag, origin := .batch, missed := 0 }
          s.agenda.list)
        free := rest, gens := s.agenda.gens.set slot.toFin h.gen })

/-! ## Device reset -/

/-- Device reset gives every block its device-reset values from any state, whatever service or command
is under way, and keeps only the levels of the input pins, which come from outside, and the model's
queue (logs 6 and 7). The state it leaves, and the model's reset state, meet every invariant stated
above, and FREE_COUNT and PENDING_COUNT read 256 and 0 (R14, R50, R60, R84, R105, R122, R141, R159, R170,
R177, R195, R196). -/
def Obligations.DeviceResetValuesMeetInvariants : Prop :=
  (∀ s : State, ∃ t : State, exec .deviceReset s = .next t ∧
    t.timebase = resetTimebase ∧ t.agenda = resetAgenda ∧ t.arbiter = resetArbiter ∧
    (∀ l : Fin 16, t.lines.lines[l] = resetLine ∧ outPin t l = .floating) ∧
    (∀ p : Fin 8, t.lines.pairs[p] = resetPair) ∧ (∀ g : Fin 4, t.groups[g] = resetGroup) ∧
    t.capture = resetCapture ∧ t.reactions = resetReactions ∧ t.batch = resetBatch ∧
    t.reports = resetReports ∧ t.port = resetPort ∧ t.irq = resetIrq ∧
    t.pins.trip = s.pins.trip ∧ t.pins.tclk = s.pins.tclk ∧ t.pins.inputs = s.pins.inputs ∧
    t.pending = s.pending ∧
    SlotInv t ∧ EntryInv t ∧ PairInv t ∧ GroupInv t ∧ CapacityInv t ∧ PortInv t ∧ BatchInv t ∧
    readWord t 0x1A = 256 ∧ readWord t 0x1D = 0) ∧
  SlotInv State.reset ∧ EntryInv State.reset ∧ PairInv State.reset ∧ GroupInv State.reset ∧
  CapacityInv State.reset ∧ PortInv State.reset ∧ BatchInv State.reset

end Statements
end

