-- ==== Sys2Proof/Laws/State.lean ====
section
/-! SUPPORT. One lemma for each field of the state under each record update: what was written in the
field updated, what stood there before in every other. -/

namespace Sys2Proof.Machine

/-! ### withTimebase -/

@[simp] theorem withTimebase_timebase (t : Timebase) (s : State) : (withTimebase t s).timebase = t := rfl
@[simp] theorem withTimebase_agenda (t : Timebase) (s : State) : (withTimebase t s).agenda = s.agenda := rfl
@[simp] theorem withTimebase_arbiter (t : Timebase) (s : State) : (withTimebase t s).arbiter = s.arbiter := rfl
@[simp] theorem withTimebase_lines (t : Timebase) (s : State) : (withTimebase t s).lines = s.lines := rfl
@[simp] theorem withTimebase_groups (t : Timebase) (s : State) : (withTimebase t s).groups = s.groups := rfl
@[simp] theorem withTimebase_capture (t : Timebase) (s : State) : (withTimebase t s).capture = s.capture := rfl
@[simp] theorem withTimebase_reactions (t : Timebase) (s : State) : (withTimebase t s).reactions = s.reactions := rfl
@[simp] theorem withTimebase_batch (t : Timebase) (s : State) : (withTimebase t s).batch = s.batch := rfl
@[simp] theorem withTimebase_reports (t : Timebase) (s : State) : (withTimebase t s).reports = s.reports := rfl
@[simp] theorem withTimebase_port (t : Timebase) (s : State) : (withTimebase t s).port = s.port := rfl
@[simp] theorem withTimebase_irq (t : Timebase) (s : State) : (withTimebase t s).irq = s.irq := rfl
@[simp] theorem withTimebase_pins (t : Timebase) (s : State) : (withTimebase t s).pins = s.pins := rfl
@[simp] theorem withTimebase_dataOut (t : Timebase) (s : State) : (withTimebase t s).dataOut = s.dataOut := rfl
@[simp] theorem withTimebase_pending (t : Timebase) (s : State) : (withTimebase t s).pending = s.pending := rfl

/-! ### withAgenda -/

@[simp] theorem withAgenda_timebase (a : Agenda) (s : State) : (withAgenda a s).timebase = s.timebase := rfl
@[simp] theorem withAgenda_agenda (a : Agenda) (s : State) : (withAgenda a s).agenda = a := rfl
@[simp] theorem withAgenda_arbiter (a : Agenda) (s : State) : (withAgenda a s).arbiter = s.arbiter := rfl
@[simp] theorem withAgenda_lines (a : Agenda) (s : State) : (withAgenda a s).lines = s.lines := rfl
@[simp] theorem withAgenda_groups (a : Agenda) (s : State) : (withAgenda a s).groups = s.groups := rfl
@[simp] theorem withAgenda_capture (a : Agenda) (s : State) : (withAgenda a s).capture = s.capture := rfl
@[simp] theorem withAgenda_reactions (a : Agenda) (s : State) : (withAgenda a s).reactions = s.reactions := rfl
@[simp] theorem withAgenda_batch (a : Agenda) (s : State) : (withAgenda a s).batch = s.batch := rfl
@[simp] theorem withAgenda_reports (a : Agenda) (s : State) : (withAgenda a s).reports = s.reports := rfl
@[simp] theorem withAgenda_port (a : Agenda) (s : State) : (withAgenda a s).port = s.port := rfl
@[simp] theorem withAgenda_irq (a : Agenda) (s : State) : (withAgenda a s).irq = s.irq := rfl
@[simp] theorem withAgenda_pins (a : Agenda) (s : State) : (withAgenda a s).pins = s.pins := rfl
@[simp] theorem withAgenda_dataOut (a : Agenda) (s : State) : (withAgenda a s).dataOut = s.dataOut := rfl
@[simp] theorem withAgenda_pending (a : Agenda) (s : State) : (withAgenda a s).pending = s.pending := rfl

/-! ### withArbiter -/

@[simp] theorem withArbiter_timebase (a : Arbiter) (s : State) : (withArbiter a s).timebase = s.timebase := rfl
@[simp] theorem withArbiter_agenda (a : Arbiter) (s : State) : (withArbiter a s).agenda = s.agenda := rfl
@[simp] theorem withArbiter_arbiter (a : Arbiter) (s : State) : (withArbiter a s).arbiter = a := rfl
@[simp] theorem withArbiter_lines (a : Arbiter) (s : State) : (withArbiter a s).lines = s.lines := rfl
@[simp] theorem withArbiter_groups (a : Arbiter) (s : State) : (withArbiter a s).groups = s.groups := rfl
@[simp] theorem withArbiter_capture (a : Arbiter) (s : State) : (withArbiter a s).capture = s.capture := rfl
@[simp] theorem withArbiter_reactions (a : Arbiter) (s : State) : (withArbiter a s).reactions = s.reactions := rfl
@[simp] theorem withArbiter_batch (a : Arbiter) (s : State) : (withArbiter a s).batch = s.batch := rfl
@[simp] theorem withArbiter_reports (a : Arbiter) (s : State) : (withArbiter a s).reports = s.reports := rfl
@[simp] theorem withArbiter_port (a : Arbiter) (s : State) : (withArbiter a s).port = s.port := rfl
@[simp] theorem withArbiter_irq (a : Arbiter) (s : State) : (withArbiter a s).irq = s.irq := rfl
@[simp] theorem withArbiter_pins (a : Arbiter) (s : State) : (withArbiter a s).pins = s.pins := rfl
@[simp] theorem withArbiter_dataOut (a : Arbiter) (s : State) : (withArbiter a s).dataOut = s.dataOut := rfl
@[simp] theorem withArbiter_pending (a : Arbiter) (s : State) : (withArbiter a s).pending = s.pending := rfl

/-! ### withLines -/

@[simp] theorem withLines_timebase (l : LineUnit) (s : State) : (withLines l s).timebase = s.timebase := rfl
@[simp] theorem withLines_agenda (l : LineUnit) (s : State) : (withLines l s).agenda = s.agenda := rfl
@[simp] theorem withLines_arbiter (l : LineUnit) (s : State) : (withLines l s).arbiter = s.arbiter := rfl
@[simp] theorem withLines_lines (l : LineUnit) (s : State) : (withLines l s).lines = l := rfl
@[simp] theorem withLines_groups (l : LineUnit) (s : State) : (withLines l s).groups = s.groups := rfl
@[simp] theorem withLines_capture (l : LineUnit) (s : State) : (withLines l s).capture = s.capture := rfl
@[simp] theorem withLines_reactions (l : LineUnit) (s : State) : (withLines l s).reactions = s.reactions := rfl
@[simp] theorem withLines_batch (l : LineUnit) (s : State) : (withLines l s).batch = s.batch := rfl
@[simp] theorem withLines_reports (l : LineUnit) (s : State) : (withLines l s).reports = s.reports := rfl
@[simp] theorem withLines_port (l : LineUnit) (s : State) : (withLines l s).port = s.port := rfl
@[simp] theorem withLines_irq (l : LineUnit) (s : State) : (withLines l s).irq = s.irq := rfl
@[simp] theorem withLines_pins (l : LineUnit) (s : State) : (withLines l s).pins = s.pins := rfl
@[simp] theorem withLines_dataOut (l : LineUnit) (s : State) : (withLines l s).dataOut = s.dataOut := rfl
@[simp] theorem withLines_pending (l : LineUnit) (s : State) : (withLines l s).pending = s.pending := rfl

/-! ### withCapture -/

@[simp] theorem withCapture_timebase (c : CaptureUnit) (s : State) : (withCapture c s).timebase = s.timebase := rfl
@[simp] theorem withCapture_agenda (c : CaptureUnit) (s : State) : (withCapture c s).agenda = s.agenda := rfl
@[simp] theorem withCapture_arbiter (c : CaptureUnit) (s : State) : (withCapture c s).arbiter = s.arbiter := rfl
@[simp] theorem withCapture_lines (c : CaptureUnit) (s : State) : (withCapture c s).lines = s.lines := rfl
@[simp] theorem withCapture_groups (c : CaptureUnit) (s : State) : (withCapture c s).groups = s.groups := rfl
@[simp] theorem withCapture_capture (c : CaptureUnit) (s : State) : (withCapture c s).capture = c := rfl
@[simp] theorem withCapture_reactions (c : CaptureUnit) (s : State) : (withCapture c s).reactions = s.reactions := rfl
@[simp] theorem withCapture_batch (c : CaptureUnit) (s : State) : (withCapture c s).batch = s.batch := rfl
@[simp] theorem withCapture_reports (c : CaptureUnit) (s : State) : (withCapture c s).reports = s.reports := rfl
@[simp] theorem withCapture_port (c : CaptureUnit) (s : State) : (withCapture c s).port = s.port := rfl
@[simp] theorem withCapture_irq (c : CaptureUnit) (s : State) : (withCapture c s).irq = s.irq := rfl
@[simp] theorem withCapture_pins (c : CaptureUnit) (s : State) : (withCapture c s).pins = s.pins := rfl
@[simp] theorem withCapture_dataOut (c : CaptureUnit) (s : State) : (withCapture c s).dataOut = s.dataOut := rfl
@[simp] theorem withCapture_pending (c : CaptureUnit) (s : State) : (withCapture c s).pending = s.pending := rfl

/-! ### withReactions -/

@[simp] theorem withReactions_timebase (r : ReactionUnit) (s : State) : (withReactions r s).timebase = s.timebase := rfl
@[simp] theorem withReactions_agenda (r : ReactionUnit) (s : State) : (withReactions r s).agenda = s.agenda := rfl
@[simp] theorem withReactions_arbiter (r : ReactionUnit) (s : State) : (withReactions r s).arbiter = s.arbiter := rfl
@[simp] theorem withReactions_lines (r : ReactionUnit) (s : State) : (withReactions r s).lines = s.lines := rfl
@[simp] theorem withReactions_groups (r : ReactionUnit) (s : State) : (withReactions r s).groups = s.groups := rfl
@[simp] theorem withReactions_capture (r : ReactionUnit) (s : State) : (withReactions r s).capture = s.capture := rfl
@[simp] theorem withReactions_reactions (r : ReactionUnit) (s : State) : (withReactions r s).reactions = r := rfl
@[simp] theorem withReactions_batch (r : ReactionUnit) (s : State) : (withReactions r s).batch = s.batch := rfl
@[simp] theorem withReactions_reports (r : ReactionUnit) (s : State) : (withReactions r s).reports = s.reports := rfl
@[simp] theorem withReactions_port (r : ReactionUnit) (s : State) : (withReactions r s).port = s.port := rfl
@[simp] theorem withReactions_irq (r : ReactionUnit) (s : State) : (withReactions r s).irq = s.irq := rfl
@[simp] theorem withReactions_pins (r : ReactionUnit) (s : State) : (withReactions r s).pins = s.pins := rfl
@[simp] theorem withReactions_dataOut (r : ReactionUnit) (s : State) : (withReactions r s).dataOut = s.dataOut := rfl
@[simp] theorem withReactions_pending (r : ReactionUnit) (s : State) : (withReactions r s).pending = s.pending := rfl

/-! ### withBatch -/

@[simp] theorem withBatch_timebase (b : BatchUnit) (s : State) : (withBatch b s).timebase = s.timebase := rfl
@[simp] theorem withBatch_agenda (b : BatchUnit) (s : State) : (withBatch b s).agenda = s.agenda := rfl
@[simp] theorem withBatch_arbiter (b : BatchUnit) (s : State) : (withBatch b s).arbiter = s.arbiter := rfl
@[simp] theorem withBatch_lines (b : BatchUnit) (s : State) : (withBatch b s).lines = s.lines := rfl
@[simp] theorem withBatch_groups (b : BatchUnit) (s : State) : (withBatch b s).groups = s.groups := rfl
@[simp] theorem withBatch_capture (b : BatchUnit) (s : State) : (withBatch b s).capture = s.capture := rfl
@[simp] theorem withBatch_reactions (b : BatchUnit) (s : State) : (withBatch b s).reactions = s.reactions := rfl
@[simp] theorem withBatch_batch (b : BatchUnit) (s : State) : (withBatch b s).batch = b := rfl
@[simp] theorem withBatch_reports (b : BatchUnit) (s : State) : (withBatch b s).reports = s.reports := rfl
@[simp] theorem withBatch_port (b : BatchUnit) (s : State) : (withBatch b s).port = s.port := rfl
@[simp] theorem withBatch_irq (b : BatchUnit) (s : State) : (withBatch b s).irq = s.irq := rfl
@[simp] theorem withBatch_pins (b : BatchUnit) (s : State) : (withBatch b s).pins = s.pins := rfl
@[simp] theorem withBatch_dataOut (b : BatchUnit) (s : State) : (withBatch b s).dataOut = s.dataOut := rfl
@[simp] theorem withBatch_pending (b : BatchUnit) (s : State) : (withBatch b s).pending = s.pending := rfl

/-! ### withReports -/

@[simp] theorem withReports_timebase (r : ReportQueue) (s : State) : (withReports r s).timebase = s.timebase := rfl
@[simp] theorem withReports_agenda (r : ReportQueue) (s : State) : (withReports r s).agenda = s.agenda := rfl
@[simp] theorem withReports_arbiter (r : ReportQueue) (s : State) : (withReports r s).arbiter = s.arbiter := rfl
@[simp] theorem withReports_lines (r : ReportQueue) (s : State) : (withReports r s).lines = s.lines := rfl
@[simp] theorem withReports_groups (r : ReportQueue) (s : State) : (withReports r s).groups = s.groups := rfl
@[simp] theorem withReports_capture (r : ReportQueue) (s : State) : (withReports r s).capture = s.capture := rfl
@[simp] theorem withReports_reactions (r : ReportQueue) (s : State) : (withReports r s).reactions = s.reactions := rfl
@[simp] theorem withReports_batch (r : ReportQueue) (s : State) : (withReports r s).batch = s.batch := rfl
@[simp] theorem withReports_reports (r : ReportQueue) (s : State) : (withReports r s).reports = r := rfl
@[simp] theorem withReports_port (r : ReportQueue) (s : State) : (withReports r s).port = s.port := rfl
@[simp] theorem withReports_irq (r : ReportQueue) (s : State) : (withReports r s).irq = s.irq := rfl
@[simp] theorem withReports_pins (r : ReportQueue) (s : State) : (withReports r s).pins = s.pins := rfl
@[simp] theorem withReports_dataOut (r : ReportQueue) (s : State) : (withReports r s).dataOut = s.dataOut := rfl
@[simp] theorem withReports_pending (r : ReportQueue) (s : State) : (withReports r s).pending = s.pending := rfl

/-! ### withPort -/

@[simp] theorem withPort_timebase (p : CommandPort) (s : State) : (withPort p s).timebase = s.timebase := rfl
@[simp] theorem withPort_agenda (p : CommandPort) (s : State) : (withPort p s).agenda = s.agenda := rfl
@[simp] theorem withPort_arbiter (p : CommandPort) (s : State) : (withPort p s).arbiter = s.arbiter := rfl
@[simp] theorem withPort_lines (p : CommandPort) (s : State) : (withPort p s).lines = s.lines := rfl
@[simp] theorem withPort_groups (p : CommandPort) (s : State) : (withPort p s).groups = s.groups := rfl
@[simp] theorem withPort_capture (p : CommandPort) (s : State) : (withPort p s).capture = s.capture := rfl
@[simp] theorem withPort_reactions (p : CommandPort) (s : State) : (withPort p s).reactions = s.reactions := rfl
@[simp] theorem withPort_batch (p : CommandPort) (s : State) : (withPort p s).batch = s.batch := rfl
@[simp] theorem withPort_reports (p : CommandPort) (s : State) : (withPort p s).reports = s.reports := rfl
@[simp] theorem withPort_port (p : CommandPort) (s : State) : (withPort p s).port = p := rfl
@[simp] theorem withPort_irq (p : CommandPort) (s : State) : (withPort p s).irq = s.irq := rfl
@[simp] theorem withPort_pins (p : CommandPort) (s : State) : (withPort p s).pins = s.pins := rfl
@[simp] theorem withPort_dataOut (p : CommandPort) (s : State) : (withPort p s).dataOut = s.dataOut := rfl
@[simp] theorem withPort_pending (p : CommandPort) (s : State) : (withPort p s).pending = s.pending := rfl

/-! ### withPins -/

@[simp] theorem withPins_timebase (p : Pins) (s : State) : (withPins p s).timebase = s.timebase := rfl
@[simp] theorem withPins_agenda (p : Pins) (s : State) : (withPins p s).agenda = s.agenda := rfl
@[simp] theorem withPins_arbiter (p : Pins) (s : State) : (withPins p s).arbiter = s.arbiter := rfl
@[simp] theorem withPins_lines (p : Pins) (s : State) : (withPins p s).lines = s.lines := rfl
@[simp] theorem withPins_groups (p : Pins) (s : State) : (withPins p s).groups = s.groups := rfl
@[simp] theorem withPins_capture (p : Pins) (s : State) : (withPins p s).capture = s.capture := rfl
@[simp] theorem withPins_reactions (p : Pins) (s : State) : (withPins p s).reactions = s.reactions := rfl
@[simp] theorem withPins_batch (p : Pins) (s : State) : (withPins p s).batch = s.batch := rfl
@[simp] theorem withPins_reports (p : Pins) (s : State) : (withPins p s).reports = s.reports := rfl
@[simp] theorem withPins_port (p : Pins) (s : State) : (withPins p s).port = s.port := rfl
@[simp] theorem withPins_irq (p : Pins) (s : State) : (withPins p s).irq = s.irq := rfl
@[simp] theorem withPins_pins (p : Pins) (s : State) : (withPins p s).pins = p := rfl
@[simp] theorem withPins_dataOut (p : Pins) (s : State) : (withPins p s).dataOut = s.dataOut := rfl
@[simp] theorem withPins_pending (p : Pins) (s : State) : (withPins p s).pending = s.pending := rfl

/-! ### withGroup -/

@[simp] theorem withGroup_timebase (g : Fin 4) (x : Group) (s : State) : (withGroup g x s).timebase = s.timebase := rfl
@[simp] theorem withGroup_agenda (g : Fin 4) (x : Group) (s : State) : (withGroup g x s).agenda = s.agenda := rfl
@[simp] theorem withGroup_arbiter (g : Fin 4) (x : Group) (s : State) : (withGroup g x s).arbiter = s.arbiter := rfl
@[simp] theorem withGroup_lines (g : Fin 4) (x : Group) (s : State) : (withGroup g x s).lines = s.lines := rfl
@[simp] theorem withGroup_groups (g : Fin 4) (x : Group) (s : State) : (withGroup g x s).groups = s.groups.set g x := rfl
@[simp] theorem withGroup_capture (g : Fin 4) (x : Group) (s : State) : (withGroup g x s).capture = s.capture := rfl
@[simp] theorem withGroup_reactions (g : Fin 4) (x : Group) (s : State) : (withGroup g x s).reactions = s.reactions := rfl
@[simp] theorem withGroup_batch (g : Fin 4) (x : Group) (s : State) : (withGroup g x s).batch = s.batch := rfl
@[simp] theorem withGroup_reports (g : Fin 4) (x : Group) (s : State) : (withGroup g x s).reports = s.reports := rfl
@[simp] theorem withGroup_port (g : Fin 4) (x : Group) (s : State) : (withGroup g x s).port = s.port := rfl
@[simp] theorem withGroup_irq (g : Fin 4) (x : Group) (s : State) : (withGroup g x s).irq = s.irq := rfl
@[simp] theorem withGroup_pins (g : Fin 4) (x : Group) (s : State) : (withGroup g x s).pins = s.pins := rfl
@[simp] theorem withGroup_dataOut (g : Fin 4) (x : Group) (s : State) : (withGroup g x s).dataOut = s.dataOut := rfl
@[simp] theorem withGroup_pending (g : Fin 4) (x : Group) (s : State) : (withGroup g x s).pending = s.pending := rfl

/-! ### withFlags and the flag setters -/

@[simp] theorem withFlags_timebase (f : Flags) (s : State) : (withFlags f s).timebase = s.timebase := rfl
@[simp] theorem withFlags_agenda (f : Flags) (s : State) : (withFlags f s).agenda = s.agenda := rfl
@[simp] theorem withFlags_arbiter (f : Flags) (s : State) : (withFlags f s).arbiter = s.arbiter := rfl
@[simp] theorem withFlags_lines (f : Flags) (s : State) : (withFlags f s).lines = s.lines := rfl
@[simp] theorem withFlags_groups (f : Flags) (s : State) : (withFlags f s).groups = s.groups := rfl
@[simp] theorem withFlags_capture (f : Flags) (s : State) : (withFlags f s).capture = s.capture := rfl
@[simp] theorem withFlags_reactions (f : Flags) (s : State) : (withFlags f s).reactions = s.reactions := rfl
@[simp] theorem withFlags_batch (f : Flags) (s : State) : (withFlags f s).batch = s.batch := rfl
@[simp] theorem withFlags_reports (f : Flags) (s : State) : (withFlags f s).reports = s.reports := rfl
@[simp] theorem withFlags_port (f : Flags) (s : State) : (withFlags f s).port = s.port := rfl
@[simp] theorem withFlags_irq (f : Flags) (s : State) : (withFlags f s).irq = { s.irq with flags := f } := rfl
@[simp] theorem withFlags_pins (f : Flags) (s : State) : (withFlags f s).pins = s.pins := rfl
@[simp] theorem withFlags_dataOut (f : Flags) (s : State) : (withFlags f s).dataOut = s.dataOut := rfl
@[simp] theorem withFlags_pending (f : Flags) (s : State) : (withFlags f s).pending = s.pending := rfl

@[simp] theorem setCmdDone_timebase (s : State) : (setCmdDone s).timebase = s.timebase := rfl
@[simp] theorem setCmdDone_agenda (s : State) : (setCmdDone s).agenda = s.agenda := rfl
@[simp] theorem setCmdDone_arbiter (s : State) : (setCmdDone s).arbiter = s.arbiter := rfl
@[simp] theorem setCmdDone_lines (s : State) : (setCmdDone s).lines = s.lines := rfl
@[simp] theorem setCmdDone_groups (s : State) : (setCmdDone s).groups = s.groups := rfl
@[simp] theorem setCmdDone_capture (s : State) : (setCmdDone s).capture = s.capture := rfl
@[simp] theorem setCmdDone_reactions (s : State) : (setCmdDone s).reactions = s.reactions := rfl
@[simp] theorem setCmdDone_batch (s : State) : (setCmdDone s).batch = s.batch := rfl
@[simp] theorem setCmdDone_reports (s : State) : (setCmdDone s).reports = s.reports := rfl
@[simp] theorem setCmdDone_port (s : State) : (setCmdDone s).port = s.port := rfl
@[simp] theorem setCmdDone_irq (s : State) :
    (setCmdDone s).irq = { s.irq with flags := { s.irq.flags with cmdDone := true } } := rfl
@[simp] theorem setCmdDone_pins (s : State) : (setCmdDone s).pins = s.pins := rfl
@[simp] theorem setCmdDone_dataOut (s : State) : (setCmdDone s).dataOut = s.dataOut := rfl
@[simp] theorem setCmdDone_pending (s : State) : (setCmdDone s).pending = s.pending := rfl

@[simp] theorem setBatchEnd_timebase (s : State) : (setBatchEnd s).timebase = s.timebase := rfl
@[simp] theorem setBatchEnd_agenda (s : State) : (setBatchEnd s).agenda = s.agenda := rfl
@[simp] theorem setBatchEnd_arbiter (s : State) : (setBatchEnd s).arbiter = s.arbiter := rfl
@[simp] theorem setBatchEnd_lines (s : State) : (setBatchEnd s).lines = s.lines := rfl
@[simp] theorem setBatchEnd_groups (s : State) : (setBatchEnd s).groups = s.groups := rfl
@[simp] theorem setBatchEnd_capture (s : State) : (setBatchEnd s).capture = s.capture := rfl
@[simp] theorem setBatchEnd_reactions (s : State) : (setBatchEnd s).reactions = s.reactions := rfl
@[simp] theorem setBatchEnd_batch (s : State) : (setBatchEnd s).batch = s.batch := rfl
@[simp] theorem setBatchEnd_reports (s : State) : (setBatchEnd s).reports = s.reports := rfl
@[simp] theorem setBatchEnd_port (s : State) : (setBatchEnd s).port = s.port := rfl
@[simp] theorem setBatchEnd_irq (s : State) :
    (setBatchEnd s).irq = { s.irq with flags := { s.irq.flags with batchEnd := true } } := rfl
@[simp] theorem setBatchEnd_pins (s : State) : (setBatchEnd s).pins = s.pins := rfl
@[simp] theorem setBatchEnd_dataOut (s : State) : (setBatchEnd s).dataOut = s.dataOut := rfl
@[simp] theorem setBatchEnd_pending (s : State) : (setBatchEnd s).pending = s.pending := rfl

@[simp] theorem setCapLost_timebase (s : State) : (setCapLost s).timebase = s.timebase := rfl
@[simp] theorem setCapLost_agenda (s : State) : (setCapLost s).agenda = s.agenda := rfl
@[simp] theorem setCapLost_arbiter (s : State) : (setCapLost s).arbiter = s.arbiter := rfl
@[simp] theorem setCapLost_lines (s : State) : (setCapLost s).lines = s.lines := rfl
@[simp] theorem setCapLost_groups (s : State) : (setCapLost s).groups = s.groups := rfl
@[simp] theorem setCapLost_capture (s : State) : (setCapLost s).capture = s.capture := rfl
@[simp] theorem setCapLost_reactions (s : State) : (setCapLost s).reactions = s.reactions := rfl
@[simp] theorem setCapLost_batch (s : State) : (setCapLost s).batch = s.batch := rfl
@[simp] theorem setCapLost_reports (s : State) : (setCapLost s).reports = s.reports := rfl
@[simp] theorem setCapLost_port (s : State) : (setCapLost s).port = s.port := rfl
@[simp] theorem setCapLost_irq (s : State) :
    (setCapLost s).irq = { s.irq with flags := { s.irq.flags with capLost := true } } := rfl
@[simp] theorem setCapLost_pins (s : State) : (setCapLost s).pins = s.pins := rfl
@[simp] theorem setCapLost_dataOut (s : State) : (setCapLost s).dataOut = s.dataOut := rfl
@[simp] theorem setCapLost_pending (s : State) : (setCapLost s).pending = s.pending := rfl

@[simp] theorem setRptLost_timebase (s : State) : (setRptLost s).timebase = s.timebase := rfl
@[simp] theorem setRptLost_agenda (s : State) : (setRptLost s).agenda = s.agenda := rfl
@[simp] theorem setRptLost_arbiter (s : State) : (setRptLost s).arbiter = s.arbiter := rfl
@[simp] theorem setRptLost_lines (s : State) : (setRptLost s).lines = s.lines := rfl
@[simp] theorem setRptLost_groups (s : State) : (setRptLost s).groups = s.groups := rfl
@[simp] theorem setRptLost_capture (s : State) : (setRptLost s).capture = s.capture := rfl
@[simp] theorem setRptLost_reactions (s : State) : (setRptLost s).reactions = s.reactions := rfl
@[simp] theorem setRptLost_batch (s : State) : (setRptLost s).batch = s.batch := rfl
@[simp] theorem setRptLost_reports (s : State) : (setRptLost s).reports = s.reports := rfl
@[simp] theorem setRptLost_port (s : State) : (setRptLost s).port = s.port := rfl
@[simp] theorem setRptLost_irq (s : State) :
    (setRptLost s).irq = { s.irq with flags := { s.irq.flags with rptLost := true } } := rfl
@[simp] theorem setRptLost_pins (s : State) : (setRptLost s).pins = s.pins := rfl
@[simp] theorem setRptLost_dataOut (s : State) : (setRptLost s).dataOut = s.dataOut := rfl
@[simp] theorem setRptLost_pending (s : State) : (setRptLost s).pending = s.pending := rfl

@[simp] theorem setReactLost_timebase (s : State) : (setReactLost s).timebase = s.timebase := rfl
@[simp] theorem setReactLost_agenda (s : State) : (setReactLost s).agenda = s.agenda := rfl
@[simp] theorem setReactLost_arbiter (s : State) : (setReactLost s).arbiter = s.arbiter := rfl
@[simp] theorem setReactLost_lines (s : State) : (setReactLost s).lines = s.lines := rfl
@[simp] theorem setReactLost_groups (s : State) : (setReactLost s).groups = s.groups := rfl
@[simp] theorem setReactLost_capture (s : State) : (setReactLost s).capture = s.capture := rfl
@[simp] theorem setReactLost_reactions (s : State) : (setReactLost s).reactions = s.reactions := rfl
@[simp] theorem setReactLost_batch (s : State) : (setReactLost s).batch = s.batch := rfl
@[simp] theorem setReactLost_reports (s : State) : (setReactLost s).reports = s.reports := rfl
@[simp] theorem setReactLost_port (s : State) : (setReactLost s).port = s.port := rfl
@[simp] theorem setReactLost_irq (s : State) :
    (setReactLost s).irq = { s.irq with flags := { s.irq.flags with reactLost := true } } := rfl
@[simp] theorem setReactLost_pins (s : State) : (setReactLost s).pins = s.pins := rfl
@[simp] theorem setReactLost_dataOut (s : State) : (setReactLost s).dataOut = s.dataOut := rfl
@[simp] theorem setReactLost_pending (s : State) : (setReactLost s).pending = s.pending := rfl

@[simp] theorem setPoolLow_timebase (s : State) : (setPoolLow s).timebase = s.timebase := rfl
@[simp] theorem setPoolLow_agenda (s : State) : (setPoolLow s).agenda = s.agenda := rfl
@[simp] theorem setPoolLow_arbiter (s : State) : (setPoolLow s).arbiter = s.arbiter := rfl
@[simp] theorem setPoolLow_lines (s : State) : (setPoolLow s).lines = s.lines := rfl
@[simp] theorem setPoolLow_groups (s : State) : (setPoolLow s).groups = s.groups := rfl
@[simp] theorem setPoolLow_capture (s : State) : (setPoolLow s).capture = s.capture := rfl
@[simp] theorem setPoolLow_reactions (s : State) : (setPoolLow s).reactions = s.reactions := rfl
@[simp] theorem setPoolLow_batch (s : State) : (setPoolLow s).batch = s.batch := rfl
@[simp] theorem setPoolLow_reports (s : State) : (setPoolLow s).reports = s.reports := rfl
@[simp] theorem setPoolLow_port (s : State) : (setPoolLow s).port = s.port := rfl
@[simp] theorem setPoolLow_irq (s : State) :
    (setPoolLow s).irq = { s.irq with flags := { s.irq.flags with poolLow := true } } := rfl
@[simp] theorem setPoolLow_pins (s : State) : (setPoolLow s).pins = s.pins := rfl
@[simp] theorem setPoolLow_dataOut (s : State) : (setPoolLow s).dataOut = s.dataOut := rfl
@[simp] theorem setPoolLow_pending (s : State) : (setPoolLow s).pending = s.pending := rfl

@[simp] theorem setTripFlag_timebase (g : Fin 4) (s : State) : (setTripFlag g s).timebase = s.timebase := rfl
@[simp] theorem setTripFlag_agenda (g : Fin 4) (s : State) : (setTripFlag g s).agenda = s.agenda := rfl
@[simp] theorem setTripFlag_arbiter (g : Fin 4) (s : State) : (setTripFlag g s).arbiter = s.arbiter := rfl
@[simp] theorem setTripFlag_lines (g : Fin 4) (s : State) : (setTripFlag g s).lines = s.lines := rfl
@[simp] theorem setTripFlag_groups (g : Fin 4) (s : State) : (setTripFlag g s).groups = s.groups := rfl
@[simp] theorem setTripFlag_capture (g : Fin 4) (s : State) : (setTripFlag g s).capture = s.capture := rfl
@[simp] theorem setTripFlag_reactions (g : Fin 4) (s : State) : (setTripFlag g s).reactions = s.reactions := rfl
@[simp] theorem setTripFlag_batch (g : Fin 4) (s : State) : (setTripFlag g s).batch = s.batch := rfl
@[simp] theorem setTripFlag_reports (g : Fin 4) (s : State) : (setTripFlag g s).reports = s.reports := rfl
@[simp] theorem setTripFlag_port (g : Fin 4) (s : State) : (setTripFlag g s).port = s.port := rfl
@[simp] theorem setTripFlag_irq (g : Fin 4) (s : State) :
    (setTripFlag g s).irq =
      { s.irq with flags := { s.irq.flags with trip := s.irq.flags.trip.set g true } } := rfl
@[simp] theorem setTripFlag_pins (g : Fin 4) (s : State) : (setTripFlag g s).pins = s.pins := rfl
@[simp] theorem setTripFlag_dataOut (g : Fin 4) (s : State) : (setTripFlag g s).dataOut = s.dataOut := rfl
@[simp] theorem setTripFlag_pending (g : Fin 4) (s : State) : (setTripFlag g s).pending = s.pending := rfl

/-! ### refuse -/

@[simp] theorem refuse_timebase (r : Register) (x : RejectReason) (s : State) :
    (refuse r x s).timebase = s.timebase := rfl
@[simp] theorem refuse_agenda (r : Register) (x : RejectReason) (s : State) :
    (refuse r x s).agenda = s.agenda := rfl
@[simp] theorem refuse_arbiter (r : Register) (x : RejectReason) (s : State) :
    (refuse r x s).arbiter = s.arbiter := rfl
@[simp] theorem refuse_lines (r : Register) (x : RejectReason) (s : State) :
    (refuse r x s).lines = s.lines := rfl
@[simp] theorem refuse_groups (r : Register) (x : RejectReason) (s : State) :
    (refuse r x s).groups = s.groups := rfl
@[simp] theorem refuse_capture (r : Register) (x : RejectReason) (s : State) :
    (refuse r x s).capture = s.capture := rfl
@[simp] theorem refuse_reactions (r : Register) (x : RejectReason) (s : State) :
    (refuse r x s).reactions = s.reactions := rfl
@[simp] theorem refuse_batch (r : Register) (x : RejectReason) (s : State) :
    (refuse r x s).batch = s.batch := rfl
@[simp] theorem refuse_reports (r : Register) (x : RejectReason) (s : State) :
    (refuse r x s).reports = s.reports := rfl
@[simp] theorem refuse_port (r : Register) (x : RejectReason) (s : State) :
    (refuse r x s).port = s.port := rfl
@[simp] theorem refuse_irq (r : Register) (x : RejectReason) (s : State) :
    (refuse r x s).irq =
      { s.irq with
        flags := { s.irq.flags with busReject := true }
        reject := some { reason := x, address := registerAddress r } } := rfl
@[simp] theorem refuse_pins (r : Register) (x : RejectReason) (s : State) :
    (refuse r x s).pins = s.pins := rfl
@[simp] theorem refuse_dataOut (r : Register) (x : RejectReason) (s : State) :
    (refuse r x s).dataOut = s.dataOut := rfl
@[simp] theorem refuse_pending (r : Register) (x : RejectReason) (s : State) :
    (refuse r x s).pending = s.pending := rfl

/-! ### Lines, pairs, rows and inputs -/

@[simp] theorem setActive_timebase (l : Fin 16) (a : Bool) (s : State) :
    (setActive l a s).timebase = s.timebase := rfl
@[simp] theorem setActive_agenda (l : Fin 16) (a : Bool) (s : State) :
    (setActive l a s).agenda = s.agenda := rfl
@[simp] theorem setActive_arbiter (l : Fin 16) (a : Bool) (s : State) :
    (setActive l a s).arbiter = s.arbiter := rfl
@[simp] theorem setActive_lines (l : Fin 16) (a : Bool) (s : State) :
    (setActive l a s).lines = 
      { s.lines with lines := s.lines.lines.set l { s.lines.lines[l] with active := a } } := rfl
@[simp] theorem setActive_groups (l : Fin 16) (a : Bool) (s : State) :
    (setActive l a s).groups = s.groups := rfl
@[simp] theorem setActive_capture (l : Fin 16) (a : Bool) (s : State) :
    (setActive l a s).capture = s.capture := rfl
@[simp] theorem setActive_reactions (l : Fin 16) (a : Bool) (s : State) :
    (setActive l a s).reactions = s.reactions := rfl
@[simp] theorem setActive_batch (l : Fin 16) (a : Bool) (s : State) :
    (setActive l a s).batch = s.batch := rfl
@[simp] theorem setActive_reports (l : Fin 16) (a : Bool) (s : State) :
    (setActive l a s).reports = s.reports := rfl
@[simp] theorem setActive_port (l : Fin 16) (a : Bool) (s : State) : (setActive l a s).port = s.port := rfl
@[simp] theorem setActive_irq (l : Fin 16) (a : Bool) (s : State) : (setActive l a s).irq = s.irq := rfl
@[simp] theorem setActive_pins (l : Fin 16) (a : Bool) (s : State) : (setActive l a s).pins = s.pins := rfl
@[simp] theorem setActive_dataOut (l : Fin 16) (a : Bool) (s : State) :
    (setActive l a s).dataOut = s.dataOut := rfl
@[simp] theorem setActive_pending (l : Fin 16) (a : Bool) (s : State) :
    (setActive l a s).pending = s.pending := rfl

@[simp] theorem setPair_timebase (p : Fin 8) (x : Pair) (s : State) :
    (setPair p x s).timebase = s.timebase := rfl
@[simp] theorem setPair_agenda (p : Fin 8) (x : Pair) (s : State) : (setPair p x s).agenda = s.agenda := rfl
@[simp] theorem setPair_arbiter (p : Fin 8) (x : Pair) (s : State) :
    (setPair p x s).arbiter = s.arbiter := rfl
@[simp] theorem setPair_lines (p : Fin 8) (x : Pair) (s : State) :
    (setPair p x s).lines = 
      { s.lines with pairs := s.lines.pairs.set p x } := rfl
@[simp] theorem setPair_groups (p : Fin 8) (x : Pair) (s : State) : (setPair p x s).groups = s.groups := rfl
@[simp] theorem setPair_capture (p : Fin 8) (x : Pair) (s : State) :
    (setPair p x s).capture = s.capture := rfl
@[simp] theorem setPair_reactions (p : Fin 8) (x : Pair) (s : State) :
    (setPair p x s).reactions = s.reactions := rfl
@[simp] theorem setPair_batch (p : Fin 8) (x : Pair) (s : State) : (setPair p x s).batch = s.batch := rfl
@[simp] theorem setPair_reports (p : Fin 8) (x : Pair) (s : State) :
    (setPair p x s).reports = s.reports := rfl
@[simp] theorem setPair_port (p : Fin 8) (x : Pair) (s : State) : (setPair p x s).port = s.port := rfl
@[simp] theorem setPair_irq (p : Fin 8) (x : Pair) (s : State) : (setPair p x s).irq = s.irq := rfl
@[simp] theorem setPair_pins (p : Fin 8) (x : Pair) (s : State) : (setPair p x s).pins = s.pins := rfl
@[simp] theorem setPair_dataOut (p : Fin 8) (x : Pair) (s : State) :
    (setPair p x s).dataOut = s.dataOut := rfl
@[simp] theorem setPair_pending (p : Fin 8) (x : Pair) (s : State) :
    (setPair p x s).pending = s.pending := rfl

@[simp] theorem dropDeferral_timebase (p : Fin 8) (s : State) :
    (dropDeferral p s).timebase = s.timebase := rfl
@[simp] theorem dropDeferral_agenda (p : Fin 8) (s : State) : (dropDeferral p s).agenda = s.agenda := rfl
@[simp] theorem dropDeferral_arbiter (p : Fin 8) (s : State) : (dropDeferral p s).arbiter = s.arbiter := rfl
@[simp] theorem dropDeferral_lines (p : Fin 8) (s : State) :
    (dropDeferral p s).lines = 
      { s.lines with pairs := s.lines.pairs.set p { s.lines.pairs[p] with deferral := none } } := rfl
@[simp] theorem dropDeferral_groups (p : Fin 8) (s : State) : (dropDeferral p s).groups = s.groups := rfl
@[simp] theorem dropDeferral_capture (p : Fin 8) (s : State) : (dropDeferral p s).capture = s.capture := rfl
@[simp] theorem dropDeferral_reactions (p : Fin 8) (s : State) :
    (dropDeferral p s).reactions = s.reactions := rfl
@[simp] theorem dropDeferral_batch (p : Fin 8) (s : State) : (dropDeferral p s).batch = s.batch := rfl
@[simp] theorem dropDeferral_reports (p : Fin 8) (s : State) : (dropDeferral p s).reports = s.reports := rfl
@[simp] theorem dropDeferral_port (p : Fin 8) (s : State) : (dropDeferral p s).port = s.port := rfl
@[simp] theorem dropDeferral_irq (p : Fin 8) (s : State) : (dropDeferral p s).irq = s.irq := rfl
@[simp] theorem dropDeferral_pins (p : Fin 8) (s : State) : (dropDeferral p s).pins = s.pins := rfl
@[simp] theorem dropDeferral_dataOut (p : Fin 8) (s : State) : (dropDeferral p s).dataOut = s.dataOut := rfl
@[simp] theorem dropDeferral_pending (p : Fin 8) (s : State) : (dropDeferral p s).pending = s.pending := rfl

@[simp] theorem raisePurge_timebase (g : Fin 4) (s : State) : (raisePurge g s).timebase = s.timebase := rfl
@[simp] theorem raisePurge_agenda (g : Fin 4) (s : State) : (raisePurge g s).agenda = s.agenda := rfl
@[simp] theorem raisePurge_arbiter (g : Fin 4) (s : State) :
    (raisePurge g s).arbiter = 
      { s.arbiter with purge := s.arbiter.purge.set g true } := rfl
@[simp] theorem raisePurge_lines (g : Fin 4) (s : State) : (raisePurge g s).lines = s.lines := rfl
@[simp] theorem raisePurge_groups (g : Fin 4) (s : State) : (raisePurge g s).groups = s.groups := rfl
@[simp] theorem raisePurge_capture (g : Fin 4) (s : State) : (raisePurge g s).capture = s.capture := rfl
@[simp] theorem raisePurge_reactions (g : Fin 4) (s : State) :
    (raisePurge g s).reactions = s.reactions := rfl
@[simp] theorem raisePurge_batch (g : Fin 4) (s : State) : (raisePurge g s).batch = s.batch := rfl
@[simp] theorem raisePurge_reports (g : Fin 4) (s : State) : (raisePurge g s).reports = s.reports := rfl
@[simp] theorem raisePurge_port (g : Fin 4) (s : State) : (raisePurge g s).port = s.port := rfl
@[simp] theorem raisePurge_irq (g : Fin 4) (s : State) : (raisePurge g s).irq = s.irq := rfl
@[simp] theorem raisePurge_pins (g : Fin 4) (s : State) : (raisePurge g s).pins = s.pins := rfl
@[simp] theorem raisePurge_dataOut (g : Fin 4) (s : State) : (raisePurge g s).dataOut = s.dataOut := rfl
@[simp] theorem raisePurge_pending (g : Fin 4) (s : State) : (raisePurge g s).pending = s.pending := rfl

@[simp] theorem setRow_timebase (k : Fin 16) (r : Row) (s : State) :
    (setRow k r s).timebase = s.timebase := rfl
@[simp] theorem setRow_agenda (k : Fin 16) (r : Row) (s : State) : (setRow k r s).agenda = s.agenda := rfl
@[simp] theorem setRow_arbiter (k : Fin 16) (r : Row) (s : State) :
    (setRow k r s).arbiter = s.arbiter := rfl
@[simp] theorem setRow_lines (k : Fin 16) (r : Row) (s : State) : (setRow k r s).lines = s.lines := rfl
@[simp] theorem setRow_groups (k : Fin 16) (r : Row) (s : State) : (setRow k r s).groups = s.groups := rfl
@[simp] theorem setRow_capture (k : Fin 16) (r : Row) (s : State) :
    (setRow k r s).capture = s.capture := rfl
@[simp] theorem setRow_reactions (k : Fin 16) (r : Row) (s : State) :
    (setRow k r s).reactions = 
      { s.reactions with rows := s.reactions.rows.set k r } := rfl
@[simp] theorem setRow_batch (k : Fin 16) (r : Row) (s : State) : (setRow k r s).batch = s.batch := rfl
@[simp] theorem setRow_reports (k : Fin 16) (r : Row) (s : State) :
    (setRow k r s).reports = s.reports := rfl
@[simp] theorem setRow_port (k : Fin 16) (r : Row) (s : State) : (setRow k r s).port = s.port := rfl
@[simp] theorem setRow_irq (k : Fin 16) (r : Row) (s : State) : (setRow k r s).irq = s.irq := rfl
@[simp] theorem setRow_pins (k : Fin 16) (r : Row) (s : State) : (setRow k r s).pins = s.pins := rfl
@[simp] theorem setRow_dataOut (k : Fin 16) (r : Row) (s : State) :
    (setRow k r s).dataOut = s.dataOut := rfl
@[simp] theorem setRow_pending (k : Fin 16) (r : Row) (s : State) :
    (setRow k r s).pending = s.pending := rfl

@[simp] theorem setInput_timebase (n : Fin 8) (i : Input) (s : State) :
    (setInput n i s).timebase = s.timebase := rfl
@[simp] theorem setInput_agenda (n : Fin 8) (i : Input) (s : State) :
    (setInput n i s).agenda = s.agenda := rfl
@[simp] theorem setInput_arbiter (n : Fin 8) (i : Input) (s : State) :
    (setInput n i s).arbiter = s.arbiter := rfl
@[simp] theorem setInput_lines (n : Fin 8) (i : Input) (s : State) : (setInput n i s).lines = s.lines := rfl
@[simp] theorem setInput_groups (n : Fin 8) (i : Input) (s : State) :
    (setInput n i s).groups = s.groups := rfl
@[simp] theorem setInput_capture (n : Fin 8) (i : Input) (s : State) :
    (setInput n i s).capture = 
      { s.capture with inputs := s.capture.inputs.set n i } := rfl
@[simp] theorem setInput_reactions (n : Fin 8) (i : Input) (s : State) :
    (setInput n i s).reactions = s.reactions := rfl
@[simp] theorem setInput_batch (n : Fin 8) (i : Input) (s : State) : (setInput n i s).batch = s.batch := rfl
@[simp] theorem setInput_reports (n : Fin 8) (i : Input) (s : State) :
    (setInput n i s).reports = s.reports := rfl
@[simp] theorem setInput_port (n : Fin 8) (i : Input) (s : State) : (setInput n i s).port = s.port := rfl
@[simp] theorem setInput_irq (n : Fin 8) (i : Input) (s : State) : (setInput n i s).irq = s.irq := rfl
@[simp] theorem setInput_pins (n : Fin 8) (i : Input) (s : State) : (setInput n i s).pins = s.pins := rfl
@[simp] theorem setInput_dataOut (n : Fin 8) (i : Input) (s : State) :
    (setInput n i s).dataOut = s.dataOut := rfl
@[simp] theorem setInput_pending (n : Fin 8) (i : Input) (s : State) :
    (setInput n i s).pending = s.pending := rfl

@[simp] theorem setInputPin_timebase (n : Fin 8) (l : Bool) (s : State) :
    (setInputPin n l s).timebase = s.timebase := rfl
@[simp] theorem setInputPin_agenda (n : Fin 8) (l : Bool) (s : State) :
    (setInputPin n l s).agenda = s.agenda := rfl
@[simp] theorem setInputPin_arbiter (n : Fin 8) (l : Bool) (s : State) :
    (setInputPin n l s).arbiter = s.arbiter := rfl
@[simp] theorem setInputPin_lines (n : Fin 8) (l : Bool) (s : State) :
    (setInputPin n l s).lines = s.lines := rfl
@[simp] theorem setInputPin_groups (n : Fin 8) (l : Bool) (s : State) :
    (setInputPin n l s).groups = s.groups := rfl
@[simp] theorem setInputPin_capture (n : Fin 8) (l : Bool) (s : State) :
    (setInputPin n l s).capture = s.capture := rfl
@[simp] theorem setInputPin_reactions (n : Fin 8) (l : Bool) (s : State) :
    (setInputPin n l s).reactions = s.reactions := rfl
@[simp] theorem setInputPin_batch (n : Fin 8) (l : Bool) (s : State) :
    (setInputPin n l s).batch = s.batch := rfl
@[simp] theorem setInputPin_reports (n : Fin 8) (l : Bool) (s : State) :
    (setInputPin n l s).reports = s.reports := rfl
@[simp] theorem setInputPin_port (n : Fin 8) (l : Bool) (s : State) :
    (setInputPin n l s).port = s.port := rfl
@[simp] theorem setInputPin_irq (n : Fin 8) (l : Bool) (s : State) : (setInputPin n l s).irq = s.irq := rfl
@[simp] theorem setInputPin_pins (n : Fin 8) (l : Bool) (s : State) :
    (setInputPin n l s).pins = 
      { s.pins with inputs := s.pins.inputs.set n l } := rfl
@[simp] theorem setInputPin_dataOut (n : Fin 8) (l : Bool) (s : State) :
    (setInputPin n l s).dataOut = s.dataOut := rfl
@[simp] theorem setInputPin_pending (n : Fin 8) (l : Bool) (s : State) :
    (setInputPin n l s).pending = s.pending := rfl

@[simp] theorem setTripPin_timebase (p : Fin 2) (l : Bool) (s : State) :
    (setTripPin p l s).timebase = s.timebase := rfl
@[simp] theorem setTripPin_agenda (p : Fin 2) (l : Bool) (s : State) :
    (setTripPin p l s).agenda = s.agenda := rfl
@[simp] theorem setTripPin_arbiter (p : Fin 2) (l : Bool) (s : State) :
    (setTripPin p l s).arbiter = s.arbiter := rfl
@[simp] theorem setTripPin_lines (p : Fin 2) (l : Bool) (s : State) :
    (setTripPin p l s).lines = s.lines := rfl
@[simp] theorem setTripPin_groups (p : Fin 2) (l : Bool) (s : State) :
    (setTripPin p l s).groups = s.groups := rfl
@[simp] theorem setTripPin_capture (p : Fin 2) (l : Bool) (s : State) :
    (setTripPin p l s).capture = s.capture := rfl
@[simp] theorem setTripPin_reactions (p : Fin 2) (l : Bool) (s : State) :
    (setTripPin p l s).reactions = s.reactions := rfl
@[simp] theorem setTripPin_batch (p : Fin 2) (l : Bool) (s : State) :
    (setTripPin p l s).batch = s.batch := rfl
@[simp] theorem setTripPin_reports (p : Fin 2) (l : Bool) (s : State) :
    (setTripPin p l s).reports = s.reports := rfl
@[simp] theorem setTripPin_port (p : Fin 2) (l : Bool) (s : State) : (setTripPin p l s).port = s.port := rfl
@[simp] theorem setTripPin_irq (p : Fin 2) (l : Bool) (s : State) : (setTripPin p l s).irq = s.irq := rfl
@[simp] theorem setTripPin_pins (p : Fin 2) (l : Bool) (s : State) :
    (setTripPin p l s).pins = 
      { s.pins with trip := s.pins.trip.set p l } := rfl
@[simp] theorem setTripPin_dataOut (p : Fin 2) (l : Bool) (s : State) :
    (setTripPin p l s).dataOut = s.dataOut := rfl
@[simp] theorem setTripPin_pending (p : Fin 2) (l : Bool) (s : State) :
    (setTripPin p l s).pending = s.pending := rfl

@[simp] theorem setTripSamples_timebase (p : Fin 2) (d : EdgeSamples) (s : State) :
    (setTripSamples p d s).timebase = s.timebase := rfl
@[simp] theorem setTripSamples_agenda (p : Fin 2) (d : EdgeSamples) (s : State) :
    (setTripSamples p d s).agenda = s.agenda := rfl
@[simp] theorem setTripSamples_arbiter (p : Fin 2) (d : EdgeSamples) (s : State) :
    (setTripSamples p d s).arbiter = s.arbiter := rfl
@[simp] theorem setTripSamples_lines (p : Fin 2) (d : EdgeSamples) (s : State) :
    (setTripSamples p d s).lines = s.lines := rfl
@[simp] theorem setTripSamples_groups (p : Fin 2) (d : EdgeSamples) (s : State) :
    (setTripSamples p d s).groups = s.groups := rfl
@[simp] theorem setTripSamples_capture (p : Fin 2) (d : EdgeSamples) (s : State) :
    (setTripSamples p d s).capture = s.capture := rfl
@[simp] theorem setTripSamples_reactions (p : Fin 2) (d : EdgeSamples) (s : State) :
    (setTripSamples p d s).reactions = s.reactions := rfl
@[simp] theorem setTripSamples_batch (p : Fin 2) (d : EdgeSamples) (s : State) :
    (setTripSamples p d s).batch = s.batch := rfl
@[simp] theorem setTripSamples_reports (p : Fin 2) (d : EdgeSamples) (s : State) :
    (setTripSamples p d s).reports = s.reports := rfl
@[simp] theorem setTripSamples_port (p : Fin 2) (d : EdgeSamples) (s : State) :
    (setTripSamples p d s).port = s.port := rfl
@[simp] theorem setTripSamples_irq (p : Fin 2) (d : EdgeSamples) (s : State) :
    (setTripSamples p d s).irq = s.irq := rfl
@[simp] theorem setTripSamples_pins (p : Fin 2) (d : EdgeSamples) (s : State) :
    (setTripSamples p d s).pins = 
      { s.pins with tripSamples := s.pins.tripSamples.set p d } := rfl
@[simp] theorem setTripSamples_dataOut (p : Fin 2) (d : EdgeSamples) (s : State) :
    (setTripSamples p d s).dataOut = s.dataOut := rfl
@[simp] theorem setTripSamples_pending (p : Fin 2) (d : EdgeSamples) (s : State) :
    (setTripSamples p d s).pending = s.pending := rfl

/-! ### The slot pool and the list -/

@[simp] theorem freeSlot_list (x : BitVec 8) (a : Agenda) : (freeSlot x a).list = a.list := rfl
@[simp] theorem freeSlot_free (x : BitVec 8) (a : Agenda) : (freeSlot x a).free = a.free ++ [x] := rfl
@[simp] theorem freeSlot_gens (x : BitVec 8) (a : Agenda) : (freeSlot x a).gens = a.gens := rfl
@[simp] theorem freeSlot_reserve (x : BitVec 8) (a : Agenda) : (freeSlot x a).reserve = a.reserve := rfl
@[simp] theorem freeSlot_poolLow (x : BitVec 8) (a : Agenda) : (freeSlot x a).poolLow = a.poolLow := rfl

@[simp] theorem place_list (e : Entry) (a : Agenda) : (place e a).list = placeIn e a.list := rfl
@[simp] theorem place_free (e : Entry) (a : Agenda) : (place e a).free = a.free := rfl
@[simp] theorem place_gens (e : Entry) (a : Agenda) : (place e a).gens = a.gens := rfl
@[simp] theorem place_reserve (e : Entry) (a : Agenda) : (place e a).reserve = a.reserve := rfl
@[simp] theorem place_poolLow (e : Entry) (a : Agenda) : (place e a).poolLow = a.poolLow := rfl

@[simp] theorem takeOut_list (x : BitVec 8) (a : Agenda) :
    (takeOut x a).list = a.list.eraseP (fun e => e.handle.slot == x) := rfl
@[simp] theorem takeOut_free (x : BitVec 8) (a : Agenda) : (takeOut x a).free = a.free := rfl
@[simp] theorem takeOut_gens (x : BitVec 8) (a : Agenda) : (takeOut x a).gens = a.gens := rfl
@[simp] theorem takeOut_reserve (x : BitVec 8) (a : Agenda) : (takeOut x a).reserve = a.reserve := rfl
@[simp] theorem takeOut_poolLow (x : BitVec 8) (a : Agenda) : (takeOut x a).poolLow = a.poolLow := rfl

/-! ### Services and the port -/

@[simp] theorem serving_timebase (v : Service) (s : State) : (serving v s).timebase = s.timebase := rfl
@[simp] theorem serving_agenda (v : Service) (s : State) : (serving v s).agenda = s.agenda := rfl
@[simp] theorem serving_arbiter (v : Service) (s : State) :
    (serving v s).arbiter = { s.arbiter with activity := some v } := rfl
@[simp] theorem serving_lines (v : Service) (s : State) : (serving v s).lines = s.lines := rfl
@[simp] theorem serving_groups (v : Service) (s : State) : (serving v s).groups = s.groups := rfl
@[simp] theorem serving_capture (v : Service) (s : State) : (serving v s).capture = s.capture := rfl
@[simp] theorem serving_reactions (v : Service) (s : State) : (serving v s).reactions = s.reactions := rfl
@[simp] theorem serving_batch (v : Service) (s : State) : (serving v s).batch = s.batch := rfl
@[simp] theorem serving_reports (v : Service) (s : State) : (serving v s).reports = s.reports := rfl
@[simp] theorem serving_port (v : Service) (s : State) : (serving v s).port = s.port := rfl
@[simp] theorem serving_irq (v : Service) (s : State) : (serving v s).irq = s.irq := rfl
@[simp] theorem serving_pins (v : Service) (s : State) : (serving v s).pins = s.pins := rfl
@[simp] theorem serving_dataOut (v : Service) (s : State) : (serving v s).dataOut = s.dataOut := rfl
@[simp] theorem serving_pending (v : Service) (s : State) : (serving v s).pending = s.pending := rfl

@[simp] theorem publish_timebase (a : Agenda) (s : State) : (publish a s).timebase = s.timebase := rfl
@[simp] theorem publish_agenda (a : Agenda) (s : State) :
    (publish a s).agenda = { s.agenda with list := a.list, free := a.free, gens := a.gens } := rfl
@[simp] theorem publish_arbiter (a : Agenda) (s : State) : (publish a s).arbiter = s.arbiter := rfl
@[simp] theorem publish_lines (a : Agenda) (s : State) : (publish a s).lines = s.lines := rfl
@[simp] theorem publish_groups (a : Agenda) (s : State) : (publish a s).groups = s.groups := rfl
@[simp] theorem publish_capture (a : Agenda) (s : State) : (publish a s).capture = s.capture := rfl
@[simp] theorem publish_reactions (a : Agenda) (s : State) : (publish a s).reactions = s.reactions := rfl
@[simp] theorem publish_batch (a : Agenda) (s : State) : (publish a s).batch = s.batch := rfl
@[simp] theorem publish_reports (a : Agenda) (s : State) : (publish a s).reports = s.reports := rfl
@[simp] theorem publish_port (a : Agenda) (s : State) : (publish a s).port = s.port := rfl
@[simp] theorem publish_irq (a : Agenda) (s : State) : (publish a s).irq = s.irq := rfl
@[simp] theorem publish_pins (a : Agenda) (s : State) : (publish a s).pins = s.pins := rfl
@[simp] theorem publish_dataOut (a : Agenda) (s : State) : (publish a s).dataOut = s.dataOut := rfl
@[simp] theorem publish_pending (a : Agenda) (s : State) : (publish a s).pending = s.pending := rfl

@[simp] theorem endService_timebase (v : Service) (s : State) : (endService v s).timebase = s.timebase := rfl
@[simp] theorem endService_agenda (v : Service) (s : State) :
    (endService v s).agenda =
      { s.agenda with list := v.after.list, free := v.after.free, gens := v.after.gens } := rfl
@[simp] theorem endService_arbiter (v : Service) (s : State) :
    (endService v s).arbiter = { s.arbiter with activity := none } := rfl
@[simp] theorem endService_lines (v : Service) (s : State) : (endService v s).lines = s.lines := rfl
@[simp] theorem endService_groups (v : Service) (s : State) : (endService v s).groups = s.groups := rfl
@[simp] theorem endService_capture (v : Service) (s : State) : (endService v s).capture = s.capture := rfl
@[simp] theorem endService_reactions (v : Service) (s : State) : (endService v s).reactions = s.reactions := rfl
@[simp] theorem endService_batch (v : Service) (s : State) : (endService v s).batch = s.batch := rfl
@[simp] theorem endService_reports (v : Service) (s : State) : (endService v s).reports = s.reports := rfl
@[simp] theorem endService_port (v : Service) (s : State) : (endService v s).port = s.port := rfl
@[simp] theorem endService_irq (v : Service) (s : State) : (endService v s).irq = s.irq := rfl
@[simp] theorem endService_pins (v : Service) (s : State) : (endService v s).pins = s.pins := rfl
@[simp] theorem endService_dataOut (v : Service) (s : State) : (endService v s).dataOut = s.dataOut := rfl
@[simp] theorem endService_pending (v : Service) (s : State) : (endService v s).pending = s.pending := rfl

@[simp] theorem endBatch_timebase (e : BatchEnding) (s : State) : (endBatch e s).timebase = s.timebase := rfl
@[simp] theorem endBatch_agenda (e : BatchEnding) (s : State) : (endBatch e s).agenda = s.agenda := rfl
@[simp] theorem endBatch_arbiter (e : BatchEnding) (s : State) : (endBatch e s).arbiter = s.arbiter := rfl
@[simp] theorem endBatch_lines (e : BatchEnding) (s : State) : (endBatch e s).lines = s.lines := rfl
@[simp] theorem endBatch_groups (e : BatchEnding) (s : State) : (endBatch e s).groups = s.groups := rfl
@[simp] theorem endBatch_capture (e : BatchEnding) (s : State) : (endBatch e s).capture = s.capture := rfl
@[simp] theorem endBatch_reactions (e : BatchEnding) (s : State) : (endBatch e s).reactions = s.reactions := rfl
@[simp] theorem endBatch_batch (e : BatchEnding) (s : State) :
    (endBatch e s).batch = endedBatch e s.batch := rfl
@[simp] theorem endBatch_reports (e : BatchEnding) (s : State) : (endBatch e s).reports = s.reports := rfl
@[simp] theorem endBatch_port (e : BatchEnding) (s : State) : (endBatch e s).port = s.port := rfl
@[simp] theorem endBatch_irq (e : BatchEnding) (s : State) :
    (endBatch e s).irq = { s.irq with flags := { s.irq.flags with batchEnd := true } } := rfl
@[simp] theorem endBatch_pins (e : BatchEnding) (s : State) : (endBatch e s).pins = s.pins := rfl
@[simp] theorem endBatch_dataOut (e : BatchEnding) (s : State) : (endBatch e s).dataOut = s.dataOut := rfl
@[simp] theorem endBatch_pending (e : BatchEnding) (s : State) : (endBatch e s).pending = s.pending := rfl

@[simp] theorem complete_timebase (c : ResultCode) (w : List Word) (s : State) :
    (complete c w s).timebase = s.timebase := rfl
@[simp] theorem complete_agenda (c : ResultCode) (w : List Word) (s : State) :
    (complete c w s).agenda = s.agenda := rfl
@[simp] theorem complete_arbiter (c : ResultCode) (w : List Word) (s : State) :
    (complete c w s).arbiter = s.arbiter := rfl
@[simp] theorem complete_lines (c : ResultCode) (w : List Word) (s : State) :
    (complete c w s).lines = s.lines := rfl
@[simp] theorem complete_groups (c : ResultCode) (w : List Word) (s : State) :
    (complete c w s).groups = s.groups := rfl
@[simp] theorem complete_capture (c : ResultCode) (w : List Word) (s : State) :
    (complete c w s).capture = s.capture := rfl
@[simp] theorem complete_reactions (c : ResultCode) (w : List Word) (s : State) :
    (complete c w s).reactions = s.reactions := rfl
@[simp] theorem complete_batch (c : ResultCode) (w : List Word) (s : State) :
    (complete c w s).batch = s.batch := rfl
@[simp] theorem complete_reports (c : ResultCode) (w : List Word) (s : State) :
    (complete c w s).reports = s.reports := rfl
@[simp] theorem complete_port (c : ResultCode) (w : List Word) (s : State) :
    (complete c w s).port =
      { s.port with
        waiting := false, result := c, res := writeRes w s.port.res, held := none } := rfl
@[simp] theorem complete_irq (c : ResultCode) (w : List Word) (s : State) :
    (complete c w s).irq = { s.irq with flags := { s.irq.flags with cmdDone := true } } := rfl
@[simp] theorem complete_pins (c : ResultCode) (w : List Word) (s : State) :
    (complete c w s).pins = s.pins := rfl
@[simp] theorem complete_dataOut (c : ResultCode) (w : List Word) (s : State) :
    (complete c w s).dataOut = s.dataOut := rfl
@[simp] theorem complete_pending (c : ResultCode) (w : List Word) (s : State) :
    (complete c w s).pending = s.pending := rfl

@[simp] theorem hold_timebase (h : Held) (s : State) : (hold h s).timebase = s.timebase := rfl
@[simp] theorem hold_agenda (h : Held) (s : State) : (hold h s).agenda = s.agenda := rfl
@[simp] theorem hold_arbiter (h : Held) (s : State) : (hold h s).arbiter = s.arbiter := rfl
@[simp] theorem hold_lines (h : Held) (s : State) : (hold h s).lines = s.lines := rfl
@[simp] theorem hold_groups (h : Held) (s : State) : (hold h s).groups = s.groups := rfl
@[simp] theorem hold_capture (h : Held) (s : State) : (hold h s).capture = s.capture := rfl
@[simp] theorem hold_reactions (h : Held) (s : State) : (hold h s).reactions = s.reactions := rfl
@[simp] theorem hold_batch (h : Held) (s : State) : (hold h s).batch = s.batch := rfl
@[simp] theorem hold_reports (h : Held) (s : State) : (hold h s).reports = s.reports := rfl
@[simp] theorem hold_port (h : Held) (s : State) : (hold h s).port = { s.port with waiting := true, held := some h } := rfl
@[simp] theorem hold_irq (h : Held) (s : State) : (hold h s).irq = s.irq := rfl
@[simp] theorem hold_pins (h : Held) (s : State) : (hold h s).pins = s.pins := rfl
@[simp] theorem hold_dataOut (h : Held) (s : State) : (hold h s).dataOut = s.dataOut := rfl
@[simp] theorem hold_pending (h : Held) (s : State) : (hold h s).pending = s.pending := rfl

@[simp] theorem raiseHost_timebase (s : State) : (raiseHost s).timebase = s.timebase := rfl
@[simp] theorem raiseHost_agenda (s : State) : (raiseHost s).agenda = s.agenda := rfl
@[simp] theorem raiseHost_arbiter (s : State) : (raiseHost s).arbiter = { s.arbiter with host := true } := rfl
@[simp] theorem raiseHost_lines (s : State) : (raiseHost s).lines = s.lines := rfl
@[simp] theorem raiseHost_groups (s : State) : (raiseHost s).groups = s.groups := rfl
@[simp] theorem raiseHost_capture (s : State) : (raiseHost s).capture = s.capture := rfl
@[simp] theorem raiseHost_reactions (s : State) : (raiseHost s).reactions = s.reactions := rfl
@[simp] theorem raiseHost_batch (s : State) : (raiseHost s).batch = s.batch := rfl
@[simp] theorem raiseHost_reports (s : State) : (raiseHost s).reports = s.reports := rfl
@[simp] theorem raiseHost_port (s : State) : (raiseHost s).port = { s.port with waiting := true } := rfl
@[simp] theorem raiseHost_irq (s : State) : (raiseHost s).irq = s.irq := rfl
@[simp] theorem raiseHost_pins (s : State) : (raiseHost s).pins = s.pins := rfl
@[simp] theorem raiseHost_dataOut (s : State) : (raiseHost s).dataOut = s.dataOut := rfl
@[simp] theorem raiseHost_pending (s : State) : (raiseHost s).pending = s.pending := rfl

end Sys2Proof.Machine
end

