-- ==== Sys2Proof/Laws/Frames.lean ====
section
/-! SUPPORT. The blocks each shared operation leaves as they were: `Keeps bs s t` says that `t` differs from
`s` in the blocks `bs` at most, one lemma says it for each operation, and each field reads off from it. -/

-- Each of these lemmas waits for the ones before it: elaborated side by side they hold a thread each.
set_option Elab.async false

namespace Sys2Proof.Machine

/-- The fields of the state. -/
inductive Block where
  | timebase | agenda | arbiter | lines | groups | capture | reactions | batch | reports | port | irq | pins | dataOut | pending
deriving DecidableEq, Repr

/-- `t` differs from `s` in the blocks `bs` at most. -/
structure Keeps (bs : List Block) (s t : State) : Prop where
  timebase : Block.timebase ∉ bs → t.timebase = s.timebase
  agenda : Block.agenda ∉ bs → t.agenda = s.agenda
  arbiter : Block.arbiter ∉ bs → t.arbiter = s.arbiter
  lines : Block.lines ∉ bs → t.lines = s.lines
  groups : Block.groups ∉ bs → t.groups = s.groups
  capture : Block.capture ∉ bs → t.capture = s.capture
  reactions : Block.reactions ∉ bs → t.reactions = s.reactions
  batch : Block.batch ∉ bs → t.batch = s.batch
  reports : Block.reports ∉ bs → t.reports = s.reports
  port : Block.port ∉ bs → t.port = s.port
  irq : Block.irq ∉ bs → t.irq = s.irq
  pins : Block.pins ∉ bs → t.pins = s.pins
  dataOut : Block.dataOut ∉ bs → t.dataOut = s.dataOut
  pending : Block.pending ∉ bs → t.pending = s.pending

theorem Keeps.refl (bs : List Block) (s : State) : Keeps bs s s := by constructor <;> intro _ <;> rfl

/-- Two changes one after the other touch the blocks of both. -/
theorem Keeps.andThen {bs cs ds : List Block} {s t u : State} (h : Keeps bs s t) (k : Keeps cs t u)
    (hb : ∀ b ∈ bs, b ∈ ds := by decide) (hc : ∀ b ∈ cs, b ∈ ds := by decide) : Keeps ds s u := by
  constructor <;> intro n
  · exact (k.timebase fun m => n (hc _ m)).trans (h.timebase fun m => n (hb _ m))
  · exact (k.agenda fun m => n (hc _ m)).trans (h.agenda fun m => n (hb _ m))
  · exact (k.arbiter fun m => n (hc _ m)).trans (h.arbiter fun m => n (hb _ m))
  · exact (k.lines fun m => n (hc _ m)).trans (h.lines fun m => n (hb _ m))
  · exact (k.groups fun m => n (hc _ m)).trans (h.groups fun m => n (hb _ m))
  · exact (k.capture fun m => n (hc _ m)).trans (h.capture fun m => n (hb _ m))
  · exact (k.reactions fun m => n (hc _ m)).trans (h.reactions fun m => n (hb _ m))
  · exact (k.batch fun m => n (hc _ m)).trans (h.batch fun m => n (hb _ m))
  · exact (k.reports fun m => n (hc _ m)).trans (h.reports fun m => n (hb _ m))
  · exact (k.port fun m => n (hc _ m)).trans (h.port fun m => n (hb _ m))
  · exact (k.irq fun m => n (hc _ m)).trans (h.irq fun m => n (hb _ m))
  · exact (k.pins fun m => n (hc _ m)).trans (h.pins fun m => n (hb _ m))
  · exact (k.dataOut fun m => n (hc _ m)).trans (h.dataOut fun m => n (hb _ m))
  · exact (k.pending fun m => n (hc _ m)).trans (h.pending fun m => n (hb _ m))

/-- A change of fewer blocks is one of more. -/
theorem Keeps.mono {bs ds : List Block} {s t : State} (h : Keeps bs s t)
    (hb : ∀ b ∈ bs, b ∈ ds := by decide) : Keeps ds s t :=
  h.andThen (Keeps.refl [] t) hb (by simp)

/-- A fold touches the blocks that its steps touch. -/
theorem Keeps.foldl {bs : List Block} {α : Type} {f : State → α → State} (h : ∀ s a, Keeps bs s (f s a))
    (l : List α) (s : State) : Keeps bs s (l.foldl f s) := by
  induction l generalizing s with
  | nil => exact Keeps.refl _ _
  | cons a l ih => exact (h s a).andThen (ih _) (fun _ m => m) (fun _ m => m)

/-! ## Record updates -/

theorem withTimebase_keeps (x : Timebase) (s : State) : Keeps [.timebase] s (withTimebase x s) := by
  constructor <;> intro n <;> first | rfl | exact absurd (by simp) n

theorem withAgenda_keeps (x : Agenda) (s : State) : Keeps [.agenda] s (withAgenda x s) := by
  constructor <;> intro n <;> first | rfl | exact absurd (by simp) n

theorem withArbiter_keeps (x : Arbiter) (s : State) : Keeps [.arbiter] s (withArbiter x s) := by
  constructor <;> intro n <;> first | rfl | exact absurd (by simp) n

theorem withLines_keeps (x : LineUnit) (s : State) : Keeps [.lines] s (withLines x s) := by
  constructor <;> intro n <;> first | rfl | exact absurd (by simp) n

theorem withGroup_keeps (g : Fin 4) (x : Group) (s : State) : Keeps [.groups] s (withGroup g x s) := by
  constructor <;> intro n <;> first | rfl | exact absurd (by simp) n

theorem withCapture_keeps (x : CaptureUnit) (s : State) : Keeps [.capture] s (withCapture x s) := by
  constructor <;> intro n <;> first | rfl | exact absurd (by simp) n

theorem withReactions_keeps (x : ReactionUnit) (s : State) : Keeps [.reactions] s (withReactions x s) := by
  constructor <;> intro n <;> first | rfl | exact absurd (by simp) n

theorem withBatch_keeps (x : BatchUnit) (s : State) : Keeps [.batch] s (withBatch x s) := by
  constructor <;> intro n <;> first | rfl | exact absurd (by simp) n

theorem withReports_keeps (x : ReportQueue) (s : State) : Keeps [.reports] s (withReports x s) := by
  constructor <;> intro n <;> first | rfl | exact absurd (by simp) n

theorem withPort_keeps (x : CommandPort) (s : State) : Keeps [.port] s (withPort x s) := by
  constructor <;> intro n <;> first | rfl | exact absurd (by simp) n

theorem withFlags_keeps (x : Flags) (s : State) : Keeps [.irq] s (withFlags x s) := by
  constructor <;> intro n <;> first | rfl | exact absurd (by simp) n

theorem refuse_keeps (r : Register) (x : RejectReason) (s : State) : Keeps [.irq] s (refuse r x s) := by
  constructor <;> intro n <;> first | rfl | exact absurd (by simp) n

theorem withPins_keeps (x : Pins) (s : State) : Keeps [.pins] s (withPins x s) := by
  constructor <;> intro n <;> first | rfl | exact absurd (by simp) n

theorem setActive_keeps (l : Fin 16) (a : Bool) (s : State) : Keeps [.lines] s (setActive l a s) := by
  constructor <;> intro n <;> first | rfl | exact absurd (by simp) n

theorem setPair_keeps (p : Fin 8) (x : Pair) (s : State) : Keeps [.lines] s (setPair p x s) := by
  constructor <;> intro n <;> first | rfl | exact absurd (by simp) n

theorem setRow_keeps (k : Fin 16) (r : Row) (s : State) : Keeps [.reactions] s (setRow k r s) := by
  constructor <;> intro n <;> first | rfl | exact absurd (by simp) n

theorem setInput_keeps (n : Fin 8) (i : Input) (s : State) : Keeps [.capture] s (setInput n i s) := by
  constructor <;> intro n <;> first | rfl | exact absurd (by simp) n

theorem serving_keeps (v : Service) (s : State) : Keeps [.arbiter] s (serving v s) := by
  constructor <;> intro n <;> first | rfl | exact absurd (by simp) n

/-! ## Lines, pairs and groups -/

theorem activate_keeps (l : Fin 16) (s : State) : Keeps [.lines] s ((activate l s).2) := by
  unfold activate; dsimp only
  (repeat' split) <;> first | exact Keeps.refl _ _ | exact setPair_keeps _ _ _ | exact setActive_keeps _ _ _ |
    exact (setActive_keeps _ _ _).andThen (setPair_keeps _ _ _)

@[simp] theorem activate_timebase (l : Fin 16) (s : State) :
    ((activate l s).2).timebase = s.timebase := (activate_keeps l s).timebase (by decide)
@[simp] theorem activate_agenda (l : Fin 16) (s : State) :
    ((activate l s).2).agenda = s.agenda := (activate_keeps l s).agenda (by decide)
@[simp] theorem activate_arbiter (l : Fin 16) (s : State) :
    ((activate l s).2).arbiter = s.arbiter := (activate_keeps l s).arbiter (by decide)
@[simp] theorem activate_groups (l : Fin 16) (s : State) :
    ((activate l s).2).groups = s.groups := (activate_keeps l s).groups (by decide)
@[simp] theorem activate_capture (l : Fin 16) (s : State) :
    ((activate l s).2).capture = s.capture := (activate_keeps l s).capture (by decide)
@[simp] theorem activate_reactions (l : Fin 16) (s : State) :
    ((activate l s).2).reactions = s.reactions := (activate_keeps l s).reactions (by decide)
@[simp] theorem activate_batch (l : Fin 16) (s : State) :
    ((activate l s).2).batch = s.batch := (activate_keeps l s).batch (by decide)
@[simp] theorem activate_reports (l : Fin 16) (s : State) :
    ((activate l s).2).reports = s.reports := (activate_keeps l s).reports (by decide)
@[simp] theorem activate_port (l : Fin 16) (s : State) :
    ((activate l s).2).port = s.port := (activate_keeps l s).port (by decide)
@[simp] theorem activate_irq (l : Fin 16) (s : State) :
    ((activate l s).2).irq = s.irq := (activate_keeps l s).irq (by decide)
@[simp] theorem activate_pins (l : Fin 16) (s : State) :
    ((activate l s).2).pins = s.pins := (activate_keeps l s).pins (by decide)
@[simp] theorem activate_dataOut (l : Fin 16) (s : State) :
    ((activate l s).2).dataOut = s.dataOut := (activate_keeps l s).dataOut (by decide)
@[simp] theorem activate_pending (l : Fin 16) (s : State) :
    ((activate l s).2).pending = s.pending := (activate_keeps l s).pending (by decide)

theorem deactivate_keeps (l : Fin 16) (s : State) : Keeps [.lines] s (deactivate l s) := by
  unfold deactivate; dsimp only
  (repeat' split) <;> first | exact Keeps.refl _ _ | exact setPair_keeps _ _ _ | exact setActive_keeps _ _ _ |
    exact (setActive_keeps _ _ _).andThen (setPair_keeps _ _ _)

@[simp] theorem deactivate_timebase (l : Fin 16) (s : State) :
    (deactivate l s).timebase = s.timebase := (deactivate_keeps l s).timebase (by decide)
@[simp] theorem deactivate_agenda (l : Fin 16) (s : State) :
    (deactivate l s).agenda = s.agenda := (deactivate_keeps l s).agenda (by decide)
@[simp] theorem deactivate_arbiter (l : Fin 16) (s : State) :
    (deactivate l s).arbiter = s.arbiter := (deactivate_keeps l s).arbiter (by decide)
@[simp] theorem deactivate_groups (l : Fin 16) (s : State) :
    (deactivate l s).groups = s.groups := (deactivate_keeps l s).groups (by decide)
@[simp] theorem deactivate_capture (l : Fin 16) (s : State) :
    (deactivate l s).capture = s.capture := (deactivate_keeps l s).capture (by decide)
@[simp] theorem deactivate_reactions (l : Fin 16) (s : State) :
    (deactivate l s).reactions = s.reactions := (deactivate_keeps l s).reactions (by decide)
@[simp] theorem deactivate_batch (l : Fin 16) (s : State) :
    (deactivate l s).batch = s.batch := (deactivate_keeps l s).batch (by decide)
@[simp] theorem deactivate_reports (l : Fin 16) (s : State) :
    (deactivate l s).reports = s.reports := (deactivate_keeps l s).reports (by decide)
@[simp] theorem deactivate_port (l : Fin 16) (s : State) :
    (deactivate l s).port = s.port := (deactivate_keeps l s).port (by decide)
@[simp] theorem deactivate_irq (l : Fin 16) (s : State) :
    (deactivate l s).irq = s.irq := (deactivate_keeps l s).irq (by decide)
@[simp] theorem deactivate_pins (l : Fin 16) (s : State) :
    (deactivate l s).pins = s.pins := (deactivate_keeps l s).pins (by decide)
@[simp] theorem deactivate_dataOut (l : Fin 16) (s : State) :
    (deactivate l s).dataOut = s.dataOut := (deactivate_keeps l s).dataOut (by decide)
@[simp] theorem deactivate_pending (l : Fin 16) (s : State) :
    (deactivate l s).pending = s.pending := (deactivate_keeps l s).pending (by decide)

theorem request_keeps (l : Fin 16) (r : Request) (s : State) : Keeps [.lines] s ((request l r s).2) := by
  unfold request; dsimp only
  (repeat' split) <;> first | exact activate_keeps _ _ | exact deactivate_keeps _ _ | exact setActive_keeps _ _ _

@[simp] theorem request_timebase (l : Fin 16) (r : Request) (s : State) :
    ((request l r s).2).timebase = s.timebase := (request_keeps l r s).timebase (by decide)
@[simp] theorem request_agenda (l : Fin 16) (r : Request) (s : State) :
    ((request l r s).2).agenda = s.agenda := (request_keeps l r s).agenda (by decide)
@[simp] theorem request_arbiter (l : Fin 16) (r : Request) (s : State) :
    ((request l r s).2).arbiter = s.arbiter := (request_keeps l r s).arbiter (by decide)
@[simp] theorem request_groups (l : Fin 16) (r : Request) (s : State) :
    ((request l r s).2).groups = s.groups := (request_keeps l r s).groups (by decide)
@[simp] theorem request_capture (l : Fin 16) (r : Request) (s : State) :
    ((request l r s).2).capture = s.capture := (request_keeps l r s).capture (by decide)
@[simp] theorem request_reactions (l : Fin 16) (r : Request) (s : State) :
    ((request l r s).2).reactions = s.reactions := (request_keeps l r s).reactions (by decide)
@[simp] theorem request_batch (l : Fin 16) (r : Request) (s : State) :
    ((request l r s).2).batch = s.batch := (request_keeps l r s).batch (by decide)
@[simp] theorem request_reports (l : Fin 16) (r : Request) (s : State) :
    ((request l r s).2).reports = s.reports := (request_keeps l r s).reports (by decide)
@[simp] theorem request_port (l : Fin 16) (r : Request) (s : State) :
    ((request l r s).2).port = s.port := (request_keeps l r s).port (by decide)
@[simp] theorem request_irq (l : Fin 16) (r : Request) (s : State) :
    ((request l r s).2).irq = s.irq := (request_keeps l r s).irq (by decide)
@[simp] theorem request_pins (l : Fin 16) (r : Request) (s : State) :
    ((request l r s).2).pins = s.pins := (request_keeps l r s).pins (by decide)
@[simp] theorem request_dataOut (l : Fin 16) (r : Request) (s : State) :
    ((request l r s).2).dataOut = s.dataOut := (request_keeps l r s).dataOut (by decide)
@[simp] theorem request_pending (l : Fin 16) (r : Request) (s : State) :
    ((request l r s).2).pending = s.pending := (request_keeps l r s).pending (by decide)

theorem endGuard_keeps (p : Fin 8) (s : State) : Keeps [.lines] s (endGuard p s) := by
  unfold endGuard; dsimp only
  split <;> first | exact setPair_keeps _ _ _ | exact (setActive_keeps _ _ _).andThen (setPair_keeps _ _ _)

@[simp] theorem endGuard_timebase (p : Fin 8) (s : State) :
    (endGuard p s).timebase = s.timebase := (endGuard_keeps p s).timebase (by decide)
@[simp] theorem endGuard_agenda (p : Fin 8) (s : State) :
    (endGuard p s).agenda = s.agenda := (endGuard_keeps p s).agenda (by decide)
@[simp] theorem endGuard_arbiter (p : Fin 8) (s : State) :
    (endGuard p s).arbiter = s.arbiter := (endGuard_keeps p s).arbiter (by decide)
@[simp] theorem endGuard_groups (p : Fin 8) (s : State) :
    (endGuard p s).groups = s.groups := (endGuard_keeps p s).groups (by decide)
@[simp] theorem endGuard_capture (p : Fin 8) (s : State) :
    (endGuard p s).capture = s.capture := (endGuard_keeps p s).capture (by decide)
@[simp] theorem endGuard_reactions (p : Fin 8) (s : State) :
    (endGuard p s).reactions = s.reactions := (endGuard_keeps p s).reactions (by decide)
@[simp] theorem endGuard_batch (p : Fin 8) (s : State) :
    (endGuard p s).batch = s.batch := (endGuard_keeps p s).batch (by decide)
@[simp] theorem endGuard_reports (p : Fin 8) (s : State) :
    (endGuard p s).reports = s.reports := (endGuard_keeps p s).reports (by decide)
@[simp] theorem endGuard_port (p : Fin 8) (s : State) :
    (endGuard p s).port = s.port := (endGuard_keeps p s).port (by decide)
@[simp] theorem endGuard_irq (p : Fin 8) (s : State) :
    (endGuard p s).irq = s.irq := (endGuard_keeps p s).irq (by decide)
@[simp] theorem endGuard_pins (p : Fin 8) (s : State) :
    (endGuard p s).pins = s.pins := (endGuard_keeps p s).pins (by decide)
@[simp] theorem endGuard_dataOut (p : Fin 8) (s : State) :
    (endGuard p s).dataOut = s.dataOut := (endGuard_keeps p s).dataOut (by decide)
@[simp] theorem endGuard_pending (p : Fin 8) (s : State) :
    (endGuard p s).pending = s.pending := (endGuard_keeps p s).pending (by decide)

theorem guardEndIfReached_keeps (p : Fin 8) (s : State) : Keeps [.lines] s (guardEndIfReached p s) := by
  unfold guardEndIfReached
  (repeat' split) <;> first | exact Keeps.refl _ _ | exact endGuard_keeps _ _

@[simp] theorem guardEndIfReached_timebase (p : Fin 8) (s : State) :
    (guardEndIfReached p s).timebase = s.timebase := (guardEndIfReached_keeps p s).timebase (by decide)
@[simp] theorem guardEndIfReached_agenda (p : Fin 8) (s : State) :
    (guardEndIfReached p s).agenda = s.agenda := (guardEndIfReached_keeps p s).agenda (by decide)
@[simp] theorem guardEndIfReached_arbiter (p : Fin 8) (s : State) :
    (guardEndIfReached p s).arbiter = s.arbiter := (guardEndIfReached_keeps p s).arbiter (by decide)
@[simp] theorem guardEndIfReached_groups (p : Fin 8) (s : State) :
    (guardEndIfReached p s).groups = s.groups := (guardEndIfReached_keeps p s).groups (by decide)
@[simp] theorem guardEndIfReached_capture (p : Fin 8) (s : State) :
    (guardEndIfReached p s).capture = s.capture := (guardEndIfReached_keeps p s).capture (by decide)
@[simp] theorem guardEndIfReached_reactions (p : Fin 8) (s : State) :
    (guardEndIfReached p s).reactions = s.reactions := (guardEndIfReached_keeps p s).reactions (by decide)
@[simp] theorem guardEndIfReached_batch (p : Fin 8) (s : State) :
    (guardEndIfReached p s).batch = s.batch := (guardEndIfReached_keeps p s).batch (by decide)
@[simp] theorem guardEndIfReached_reports (p : Fin 8) (s : State) :
    (guardEndIfReached p s).reports = s.reports := (guardEndIfReached_keeps p s).reports (by decide)
@[simp] theorem guardEndIfReached_port (p : Fin 8) (s : State) :
    (guardEndIfReached p s).port = s.port := (guardEndIfReached_keeps p s).port (by decide)
@[simp] theorem guardEndIfReached_irq (p : Fin 8) (s : State) :
    (guardEndIfReached p s).irq = s.irq := (guardEndIfReached_keeps p s).irq (by decide)
@[simp] theorem guardEndIfReached_pins (p : Fin 8) (s : State) :
    (guardEndIfReached p s).pins = s.pins := (guardEndIfReached_keeps p s).pins (by decide)
@[simp] theorem guardEndIfReached_dataOut (p : Fin 8) (s : State) :
    (guardEndIfReached p s).dataOut = s.dataOut := (guardEndIfReached_keeps p s).dataOut (by decide)
@[simp] theorem guardEndIfReached_pending (p : Fin 8) (s : State) :
    (guardEndIfReached p s).pending = s.pending := (guardEndIfReached_keeps p s).pending (by decide)

theorem endReachedGuards_keeps (s : State) : Keeps [.lines] s (endReachedGuards s) := 
  Keeps.foldl (fun t p => guardEndIfReached_keeps p t) _ s

@[simp] theorem endReachedGuards_timebase (s : State) :
    (endReachedGuards s).timebase = s.timebase := (endReachedGuards_keeps s).timebase (by decide)
@[simp] theorem endReachedGuards_agenda (s : State) :
    (endReachedGuards s).agenda = s.agenda := (endReachedGuards_keeps s).agenda (by decide)
@[simp] theorem endReachedGuards_arbiter (s : State) :
    (endReachedGuards s).arbiter = s.arbiter := (endReachedGuards_keeps s).arbiter (by decide)
@[simp] theorem endReachedGuards_groups (s : State) :
    (endReachedGuards s).groups = s.groups := (endReachedGuards_keeps s).groups (by decide)
@[simp] theorem endReachedGuards_capture (s : State) :
    (endReachedGuards s).capture = s.capture := (endReachedGuards_keeps s).capture (by decide)
@[simp] theorem endReachedGuards_reactions (s : State) :
    (endReachedGuards s).reactions = s.reactions := (endReachedGuards_keeps s).reactions (by decide)
@[simp] theorem endReachedGuards_batch (s : State) :
    (endReachedGuards s).batch = s.batch := (endReachedGuards_keeps s).batch (by decide)
@[simp] theorem endReachedGuards_reports (s : State) :
    (endReachedGuards s).reports = s.reports := (endReachedGuards_keeps s).reports (by decide)
@[simp] theorem endReachedGuards_port (s : State) :
    (endReachedGuards s).port = s.port := (endReachedGuards_keeps s).port (by decide)
@[simp] theorem endReachedGuards_irq (s : State) :
    (endReachedGuards s).irq = s.irq := (endReachedGuards_keeps s).irq (by decide)
@[simp] theorem endReachedGuards_pins (s : State) :
    (endReachedGuards s).pins = s.pins := (endReachedGuards_keeps s).pins (by decide)
@[simp] theorem endReachedGuards_dataOut (s : State) :
    (endReachedGuards s).dataOut = s.dataOut := (endReachedGuards_keeps s).dataOut (by decide)
@[simp] theorem endReachedGuards_pending (s : State) :
    (endReachedGuards s).pending = s.pending := (endReachedGuards_keeps s).pending (by decide)

theorem dropDeferral_keeps (p : Fin 8) (s : State) : Keeps [.lines] s (dropDeferral p s) := setPair_keeps _ _ s


theorem setTripFlag_keeps (g : Fin 4) (s : State) : Keeps [.irq] s (setTripFlag g s) := withFlags_keeps _ s


theorem raisePurge_keeps (g : Fin 4) (s : State) : Keeps [.arbiter] s (raisePurge g s) := withArbiter_keeps _ s


theorem tripEntry_keeps (g : Fin 4) (c : Cause) (s : State) :
    Keeps [.groups, .lines, .arbiter, .irq] s (tripEntry g c s) := by
  have h : Keeps [.groups, .lines, .irq] s (setTripFlag g (dropDeferral (secondPair g)
      (dropDeferral (firstPair g) (withGroup g (trippedGroup s.groups[g] c s.timebase.time) s)))) :=
    (((withGroup_keeps _ _ s).andThen (dropDeferral_keeps _ _) (ds := [.groups, .lines])).andThen
      (dropDeferral_keeps _ _) (ds := [.groups, .lines])).andThen (setTripFlag_keeps _ _)
  unfold tripEntry; dsimp only
  split
  · exact h.andThen (raisePurge_keeps _ _)
  · exact h.mono

@[simp] theorem tripEntry_timebase (g : Fin 4) (c : Cause) (s : State) :
    (tripEntry g c s).timebase = s.timebase := (tripEntry_keeps g c s).timebase (by decide)
@[simp] theorem tripEntry_agenda (g : Fin 4) (c : Cause) (s : State) :
    (tripEntry g c s).agenda = s.agenda := (tripEntry_keeps g c s).agenda (by decide)
@[simp] theorem tripEntry_capture (g : Fin 4) (c : Cause) (s : State) :
    (tripEntry g c s).capture = s.capture := (tripEntry_keeps g c s).capture (by decide)
@[simp] theorem tripEntry_reactions (g : Fin 4) (c : Cause) (s : State) :
    (tripEntry g c s).reactions = s.reactions := (tripEntry_keeps g c s).reactions (by decide)
@[simp] theorem tripEntry_batch (g : Fin 4) (c : Cause) (s : State) :
    (tripEntry g c s).batch = s.batch := (tripEntry_keeps g c s).batch (by decide)
@[simp] theorem tripEntry_reports (g : Fin 4) (c : Cause) (s : State) :
    (tripEntry g c s).reports = s.reports := (tripEntry_keeps g c s).reports (by decide)
@[simp] theorem tripEntry_port (g : Fin 4) (c : Cause) (s : State) :
    (tripEntry g c s).port = s.port := (tripEntry_keeps g c s).port (by decide)
@[simp] theorem tripEntry_pins (g : Fin 4) (c : Cause) (s : State) :
    (tripEntry g c s).pins = s.pins := (tripEntry_keeps g c s).pins (by decide)
@[simp] theorem tripEntry_dataOut (g : Fin 4) (c : Cause) (s : State) :
    (tripEntry g c s).dataOut = s.dataOut := (tripEntry_keeps g c s).dataOut (by decide)
@[simp] theorem tripEntry_pending (g : Fin 4) (c : Cause) (s : State) :
    (tripEntry g c s).pending = s.pending := (tripEntry_keeps g c s).pending (by decide)

theorem tripRequest_keeps (g : Fin 4) (c : Cause) (s : State) :
    Keeps [.groups, .lines, .arbiter, .irq] s (tripRequest g c s) := by
  unfold tripRequest; dsimp only
  split
  · exact tripEntry_keeps _ _ _
  · exact (withGroup_keeps _ _ _).mono
  · exact Keeps.refl _ _

@[simp] theorem tripRequest_timebase (g : Fin 4) (c : Cause) (s : State) :
    (tripRequest g c s).timebase = s.timebase := (tripRequest_keeps g c s).timebase (by decide)
@[simp] theorem tripRequest_agenda (g : Fin 4) (c : Cause) (s : State) :
    (tripRequest g c s).agenda = s.agenda := (tripRequest_keeps g c s).agenda (by decide)
@[simp] theorem tripRequest_capture (g : Fin 4) (c : Cause) (s : State) :
    (tripRequest g c s).capture = s.capture := (tripRequest_keeps g c s).capture (by decide)
@[simp] theorem tripRequest_reactions (g : Fin 4) (c : Cause) (s : State) :
    (tripRequest g c s).reactions = s.reactions := (tripRequest_keeps g c s).reactions (by decide)
@[simp] theorem tripRequest_batch (g : Fin 4) (c : Cause) (s : State) :
    (tripRequest g c s).batch = s.batch := (tripRequest_keeps g c s).batch (by decide)
@[simp] theorem tripRequest_reports (g : Fin 4) (c : Cause) (s : State) :
    (tripRequest g c s).reports = s.reports := (tripRequest_keeps g c s).reports (by decide)
@[simp] theorem tripRequest_port (g : Fin 4) (c : Cause) (s : State) :
    (tripRequest g c s).port = s.port := (tripRequest_keeps g c s).port (by decide)
@[simp] theorem tripRequest_pins (g : Fin 4) (c : Cause) (s : State) :
    (tripRequest g c s).pins = s.pins := (tripRequest_keeps g c s).pins (by decide)
@[simp] theorem tripRequest_dataOut (g : Fin 4) (c : Cause) (s : State) :
    (tripRequest g c s).dataOut = s.dataOut := (tripRequest_keeps g c s).dataOut (by decide)
@[simp] theorem tripRequest_pending (g : Fin 4) (c : Cause) (s : State) :
    (tripRequest g c s).pending = s.pending := (tripRequest_keeps g c s).pending (by decide)

theorem tripMask_keeps (m : Nat) (c : Cause) (s : State) :
    Keeps [.groups, .lines, .arbiter, .irq] s (tripMask m c s) := 
  Keeps.foldl (fun t g => by
    split
    · exact tripRequest_keeps _ _ _
    · exact Keeps.refl _ _) _ s

@[simp] theorem tripMask_timebase (m : Nat) (c : Cause) (s : State) :
    (tripMask m c s).timebase = s.timebase := (tripMask_keeps m c s).timebase (by decide)
@[simp] theorem tripMask_agenda (m : Nat) (c : Cause) (s : State) :
    (tripMask m c s).agenda = s.agenda := (tripMask_keeps m c s).agenda (by decide)
@[simp] theorem tripMask_capture (m : Nat) (c : Cause) (s : State) :
    (tripMask m c s).capture = s.capture := (tripMask_keeps m c s).capture (by decide)
@[simp] theorem tripMask_reactions (m : Nat) (c : Cause) (s : State) :
    (tripMask m c s).reactions = s.reactions := (tripMask_keeps m c s).reactions (by decide)
@[simp] theorem tripMask_batch (m : Nat) (c : Cause) (s : State) :
    (tripMask m c s).batch = s.batch := (tripMask_keeps m c s).batch (by decide)
@[simp] theorem tripMask_reports (m : Nat) (c : Cause) (s : State) :
    (tripMask m c s).reports = s.reports := (tripMask_keeps m c s).reports (by decide)
@[simp] theorem tripMask_port (m : Nat) (c : Cause) (s : State) :
    (tripMask m c s).port = s.port := (tripMask_keeps m c s).port (by decide)
@[simp] theorem tripMask_pins (m : Nat) (c : Cause) (s : State) :
    (tripMask m c s).pins = s.pins := (tripMask_keeps m c s).pins (by decide)
@[simp] theorem tripMask_dataOut (m : Nat) (c : Cause) (s : State) :
    (tripMask m c s).dataOut = s.dataOut := (tripMask_keeps m c s).dataOut (by decide)
@[simp] theorem tripMask_pending (m : Nat) (c : Cause) (s : State) :
    (tripMask m c s).pending = s.pending := (tripMask_keeps m c s).pending (by decide)

theorem pinTrip_keeps (pin : Fin 2) (s : State) :
    Keeps [.groups, .lines, .arbiter, .irq] s (pinTrip pin s) := 
  Keeps.foldl (fun t g => by
    split <;> first | exact tripRequest_keeps _ _ _ | exact Keeps.refl _ _) _ s

@[simp] theorem pinTrip_timebase (pin : Fin 2) (s : State) :
    (pinTrip pin s).timebase = s.timebase := (pinTrip_keeps pin s).timebase (by decide)
@[simp] theorem pinTrip_agenda (pin : Fin 2) (s : State) :
    (pinTrip pin s).agenda = s.agenda := (pinTrip_keeps pin s).agenda (by decide)
@[simp] theorem pinTrip_capture (pin : Fin 2) (s : State) :
    (pinTrip pin s).capture = s.capture := (pinTrip_keeps pin s).capture (by decide)
@[simp] theorem pinTrip_reactions (pin : Fin 2) (s : State) :
    (pinTrip pin s).reactions = s.reactions := (pinTrip_keeps pin s).reactions (by decide)
@[simp] theorem pinTrip_batch (pin : Fin 2) (s : State) :
    (pinTrip pin s).batch = s.batch := (pinTrip_keeps pin s).batch (by decide)
@[simp] theorem pinTrip_reports (pin : Fin 2) (s : State) :
    (pinTrip pin s).reports = s.reports := (pinTrip_keeps pin s).reports (by decide)
@[simp] theorem pinTrip_port (pin : Fin 2) (s : State) :
    (pinTrip pin s).port = s.port := (pinTrip_keeps pin s).port (by decide)
@[simp] theorem pinTrip_pins (pin : Fin 2) (s : State) :
    (pinTrip pin s).pins = s.pins := (pinTrip_keeps pin s).pins (by decide)
@[simp] theorem pinTrip_dataOut (pin : Fin 2) (s : State) :
    (pinTrip pin s).dataOut = s.dataOut := (pinTrip_keeps pin s).dataOut (by decide)
@[simp] theorem pinTrip_pending (pin : Fin 2) (s : State) :
    (pinTrip pin s).pending = s.pending := (pinTrip_keeps pin s).pending (by decide)

/-! ## Reports, the list and the boundary -/

theorem offerReport_keeps (r : Report) (s : State) : Keeps [.reports, .irq] s (offerReport r s) := by
  unfold offerReport; split
  · exact (withReports_keeps _ _).mono
  · exact (withReports_keeps _ _).andThen (withFlags_keeps _ _)

@[simp] theorem offerReport_timebase (r : Report) (s : State) :
    (offerReport r s).timebase = s.timebase := (offerReport_keeps r s).timebase (by decide)
@[simp] theorem offerReport_agenda (r : Report) (s : State) :
    (offerReport r s).agenda = s.agenda := (offerReport_keeps r s).agenda (by decide)
@[simp] theorem offerReport_arbiter (r : Report) (s : State) :
    (offerReport r s).arbiter = s.arbiter := (offerReport_keeps r s).arbiter (by decide)
@[simp] theorem offerReport_lines (r : Report) (s : State) :
    (offerReport r s).lines = s.lines := (offerReport_keeps r s).lines (by decide)
@[simp] theorem offerReport_groups (r : Report) (s : State) :
    (offerReport r s).groups = s.groups := (offerReport_keeps r s).groups (by decide)
@[simp] theorem offerReport_capture (r : Report) (s : State) :
    (offerReport r s).capture = s.capture := (offerReport_keeps r s).capture (by decide)
@[simp] theorem offerReport_reactions (r : Report) (s : State) :
    (offerReport r s).reactions = s.reactions := (offerReport_keeps r s).reactions (by decide)
@[simp] theorem offerReport_batch (r : Report) (s : State) :
    (offerReport r s).batch = s.batch := (offerReport_keeps r s).batch (by decide)
@[simp] theorem offerReport_port (r : Report) (s : State) :
    (offerReport r s).port = s.port := (offerReport_keeps r s).port (by decide)
@[simp] theorem offerReport_pins (r : Report) (s : State) :
    (offerReport r s).pins = s.pins := (offerReport_keeps r s).pins (by decide)
@[simp] theorem offerReport_dataOut (r : Report) (s : State) :
    (offerReport r s).dataOut = s.dataOut := (offerReport_keeps r s).dataOut (by decide)
@[simp] theorem offerReport_pending (r : Report) (s : State) :
    (offerReport r s).pending = s.pending := (offerReport_keeps r s).pending (by decide)

theorem boundaryAct_keeps (h : Handle) (s : State) : Keeps [.arbiter, .batch] s (boundaryAct h s) := by
  unfold boundaryAct; split
  · exact (withBatch_keeps _ _).andThen (withArbiter_keeps _ _)
  · exact Keeps.refl _ _

@[simp] theorem boundaryAct_timebase (h : Handle) (s : State) :
    (boundaryAct h s).timebase = s.timebase := (boundaryAct_keeps h s).timebase (by decide)
@[simp] theorem boundaryAct_agenda (h : Handle) (s : State) :
    (boundaryAct h s).agenda = s.agenda := (boundaryAct_keeps h s).agenda (by decide)
@[simp] theorem boundaryAct_lines (h : Handle) (s : State) :
    (boundaryAct h s).lines = s.lines := (boundaryAct_keeps h s).lines (by decide)
@[simp] theorem boundaryAct_groups (h : Handle) (s : State) :
    (boundaryAct h s).groups = s.groups := (boundaryAct_keeps h s).groups (by decide)
@[simp] theorem boundaryAct_capture (h : Handle) (s : State) :
    (boundaryAct h s).capture = s.capture := (boundaryAct_keeps h s).capture (by decide)
@[simp] theorem boundaryAct_reactions (h : Handle) (s : State) :
    (boundaryAct h s).reactions = s.reactions := (boundaryAct_keeps h s).reactions (by decide)
@[simp] theorem boundaryAct_reports (h : Handle) (s : State) :
    (boundaryAct h s).reports = s.reports := (boundaryAct_keeps h s).reports (by decide)
@[simp] theorem boundaryAct_port (h : Handle) (s : State) :
    (boundaryAct h s).port = s.port := (boundaryAct_keeps h s).port (by decide)
@[simp] theorem boundaryAct_irq (h : Handle) (s : State) :
    (boundaryAct h s).irq = s.irq := (boundaryAct_keeps h s).irq (by decide)
@[simp] theorem boundaryAct_pins (h : Handle) (s : State) :
    (boundaryAct h s).pins = s.pins := (boundaryAct_keeps h s).pins (by decide)
@[simp] theorem boundaryAct_dataOut (h : Handle) (s : State) :
    (boundaryAct h s).dataOut = s.dataOut := (boundaryAct_keeps h s).dataOut (by decide)
@[simp] theorem boundaryAct_pending (h : Handle) (s : State) :
    (boundaryAct h s).pending = s.pending := (boundaryAct_keeps h s).pending (by decide)

theorem boundaryGone_keeps (h : Handle) (s : State) : Keeps [.batch, .irq] s (boundaryGone h s) := by
  unfold boundaryGone; split
  · exact (withBatch_keeps _ _).andThen (withFlags_keeps _ _)
  · exact Keeps.refl _ _

@[simp] theorem boundaryGone_timebase (h : Handle) (s : State) :
    (boundaryGone h s).timebase = s.timebase := (boundaryGone_keeps h s).timebase (by decide)
@[simp] theorem boundaryGone_agenda (h : Handle) (s : State) :
    (boundaryGone h s).agenda = s.agenda := (boundaryGone_keeps h s).agenda (by decide)
@[simp] theorem boundaryGone_arbiter (h : Handle) (s : State) :
    (boundaryGone h s).arbiter = s.arbiter := (boundaryGone_keeps h s).arbiter (by decide)
@[simp] theorem boundaryGone_lines (h : Handle) (s : State) :
    (boundaryGone h s).lines = s.lines := (boundaryGone_keeps h s).lines (by decide)
@[simp] theorem boundaryGone_groups (h : Handle) (s : State) :
    (boundaryGone h s).groups = s.groups := (boundaryGone_keeps h s).groups (by decide)
@[simp] theorem boundaryGone_capture (h : Handle) (s : State) :
    (boundaryGone h s).capture = s.capture := (boundaryGone_keeps h s).capture (by decide)
@[simp] theorem boundaryGone_reactions (h : Handle) (s : State) :
    (boundaryGone h s).reactions = s.reactions := (boundaryGone_keeps h s).reactions (by decide)
@[simp] theorem boundaryGone_reports (h : Handle) (s : State) :
    (boundaryGone h s).reports = s.reports := (boundaryGone_keeps h s).reports (by decide)
@[simp] theorem boundaryGone_port (h : Handle) (s : State) :
    (boundaryGone h s).port = s.port := (boundaryGone_keeps h s).port (by decide)
@[simp] theorem boundaryGone_pins (h : Handle) (s : State) :
    (boundaryGone h s).pins = s.pins := (boundaryGone_keeps h s).pins (by decide)
@[simp] theorem boundaryGone_dataOut (h : Handle) (s : State) :
    (boundaryGone h s).dataOut = s.dataOut := (boundaryGone_keeps h s).dataOut (by decide)
@[simp] theorem boundaryGone_pending (h : Handle) (s : State) :
    (boundaryGone h s).pending = s.pending := (boundaryGone_keeps h s).pending (by decide)

/-! ## Acts -/

/-! ## Removal -/

/-! ## Reactions -/

theorem offerReaction_keeps (r : PendingReaction) (s : State) :
    Keeps [.reactions, .irq] s (offerReaction r s) := by
  unfold offerReaction; split
  · exact (withReactions_keeps _ _).mono
  · exact (withReactions_keeps _ _).andThen (withFlags_keeps _ _)

@[simp] theorem offerReaction_timebase (r : PendingReaction) (s : State) :
    (offerReaction r s).timebase = s.timebase := (offerReaction_keeps r s).timebase (by decide)
@[simp] theorem offerReaction_agenda (r : PendingReaction) (s : State) :
    (offerReaction r s).agenda = s.agenda := (offerReaction_keeps r s).agenda (by decide)
@[simp] theorem offerReaction_arbiter (r : PendingReaction) (s : State) :
    (offerReaction r s).arbiter = s.arbiter := (offerReaction_keeps r s).arbiter (by decide)
@[simp] theorem offerReaction_lines (r : PendingReaction) (s : State) :
    (offerReaction r s).lines = s.lines := (offerReaction_keeps r s).lines (by decide)
@[simp] theorem offerReaction_groups (r : PendingReaction) (s : State) :
    (offerReaction r s).groups = s.groups := (offerReaction_keeps r s).groups (by decide)
@[simp] theorem offerReaction_capture (r : PendingReaction) (s : State) :
    (offerReaction r s).capture = s.capture := (offerReaction_keeps r s).capture (by decide)
@[simp] theorem offerReaction_batch (r : PendingReaction) (s : State) :
    (offerReaction r s).batch = s.batch := (offerReaction_keeps r s).batch (by decide)
@[simp] theorem offerReaction_reports (r : PendingReaction) (s : State) :
    (offerReaction r s).reports = s.reports := (offerReaction_keeps r s).reports (by decide)
@[simp] theorem offerReaction_port (r : PendingReaction) (s : State) :
    (offerReaction r s).port = s.port := (offerReaction_keeps r s).port (by decide)
@[simp] theorem offerReaction_pins (r : PendingReaction) (s : State) :
    (offerReaction r s).pins = s.pins := (offerReaction_keeps r s).pins (by decide)
@[simp] theorem offerReaction_dataOut (r : PendingReaction) (s : State) :
    (offerReaction r s).dataOut = s.dataOut := (offerReaction_keeps r s).dataOut (by decide)
@[simp] theorem offerReaction_pending (r : PendingReaction) (s : State) :
    (offerReaction r s).pending = s.pending := (offerReaction_keeps r s).pending (by decide)

theorem answerMatch_keeps (k : Fin 16) (r : Row) (x : Time) (s : State) :
    Keeps [.reactions, .irq, .groups, .lines, .arbiter] s (answerMatch k r x s) := by
  unfold answerMatch; split
  · exact (tripMask_keeps _ _ _).mono
  · exact (offerReaction_keeps _ _).mono
  · exact (offerReaction_keeps _ _).mono

@[simp] theorem answerMatch_timebase (k : Fin 16) (r : Row) (x : Time) (s : State) :
    (answerMatch k r x s).timebase = s.timebase := (answerMatch_keeps k r x s).timebase (by decide)
@[simp] theorem answerMatch_agenda (k : Fin 16) (r : Row) (x : Time) (s : State) :
    (answerMatch k r x s).agenda = s.agenda := (answerMatch_keeps k r x s).agenda (by decide)
@[simp] theorem answerMatch_capture (k : Fin 16) (r : Row) (x : Time) (s : State) :
    (answerMatch k r x s).capture = s.capture := (answerMatch_keeps k r x s).capture (by decide)
@[simp] theorem answerMatch_batch (k : Fin 16) (r : Row) (x : Time) (s : State) :
    (answerMatch k r x s).batch = s.batch := (answerMatch_keeps k r x s).batch (by decide)
@[simp] theorem answerMatch_reports (k : Fin 16) (r : Row) (x : Time) (s : State) :
    (answerMatch k r x s).reports = s.reports := (answerMatch_keeps k r x s).reports (by decide)
@[simp] theorem answerMatch_port (k : Fin 16) (r : Row) (x : Time) (s : State) :
    (answerMatch k r x s).port = s.port := (answerMatch_keeps k r x s).port (by decide)
@[simp] theorem answerMatch_pins (k : Fin 16) (r : Row) (x : Time) (s : State) :
    (answerMatch k r x s).pins = s.pins := (answerMatch_keeps k r x s).pins (by decide)
@[simp] theorem answerMatch_dataOut (k : Fin 16) (r : Row) (x : Time) (s : State) :
    (answerMatch k r x s).dataOut = s.dataOut := (answerMatch_keeps k r x s).dataOut (by decide)
@[simp] theorem answerMatch_pending (k : Fin 16) (r : Row) (x : Time) (s : State) :
    (answerMatch k r x s).pending = s.pending := (answerMatch_keeps k r x s).pending (by decide)

theorem compareRow_keeps (n : Fin 8) (e : Edge) (x : Time) (k : Fin 16) (s : State) :
    Keeps [.reactions, .irq, .groups, .lines, .arbiter] s (compareRow n e x s k) := by
  unfold compareRow; dsimp only; split
  · exact (setRow_keeps _ _ _).andThen (answerMatch_keeps _ _ _ _)
  · exact Keeps.refl _ _

@[simp] theorem compareRow_timebase (n : Fin 8) (e : Edge) (x : Time) (k : Fin 16) (s : State) :
    (compareRow n e x s k).timebase = s.timebase := (compareRow_keeps n e x k s).timebase (by decide)
@[simp] theorem compareRow_agenda (n : Fin 8) (e : Edge) (x : Time) (k : Fin 16) (s : State) :
    (compareRow n e x s k).agenda = s.agenda := (compareRow_keeps n e x k s).agenda (by decide)
@[simp] theorem compareRow_capture (n : Fin 8) (e : Edge) (x : Time) (k : Fin 16) (s : State) :
    (compareRow n e x s k).capture = s.capture := (compareRow_keeps n e x k s).capture (by decide)
@[simp] theorem compareRow_batch (n : Fin 8) (e : Edge) (x : Time) (k : Fin 16) (s : State) :
    (compareRow n e x s k).batch = s.batch := (compareRow_keeps n e x k s).batch (by decide)
@[simp] theorem compareRow_reports (n : Fin 8) (e : Edge) (x : Time) (k : Fin 16) (s : State) :
    (compareRow n e x s k).reports = s.reports := (compareRow_keeps n e x k s).reports (by decide)
@[simp] theorem compareRow_port (n : Fin 8) (e : Edge) (x : Time) (k : Fin 16) (s : State) :
    (compareRow n e x s k).port = s.port := (compareRow_keeps n e x k s).port (by decide)
@[simp] theorem compareRow_pins (n : Fin 8) (e : Edge) (x : Time) (k : Fin 16) (s : State) :
    (compareRow n e x s k).pins = s.pins := (compareRow_keeps n e x k s).pins (by decide)
@[simp] theorem compareRow_dataOut (n : Fin 8) (e : Edge) (x : Time) (k : Fin 16) (s : State) :
    (compareRow n e x s k).dataOut = s.dataOut := (compareRow_keeps n e x k s).dataOut (by decide)
@[simp] theorem compareRow_pending (n : Fin 8) (e : Edge) (x : Time) (k : Fin 16) (s : State) :
    (compareRow n e x s k).pending = s.pending := (compareRow_keeps n e x k s).pending (by decide)

theorem handOff_keeps (n : Fin 8) (e : Edge) (x : Time) (s : State) :
    Keeps [.reactions, .irq, .groups, .lines, .arbiter] s (handOff n e x s) := 
  Keeps.foldl (fun t k => compareRow_keeps n e x k t) _ s

@[simp] theorem handOff_timebase (n : Fin 8) (e : Edge) (x : Time) (s : State) :
    (handOff n e x s).timebase = s.timebase := (handOff_keeps n e x s).timebase (by decide)
@[simp] theorem handOff_agenda (n : Fin 8) (e : Edge) (x : Time) (s : State) :
    (handOff n e x s).agenda = s.agenda := (handOff_keeps n e x s).agenda (by decide)
@[simp] theorem handOff_capture (n : Fin 8) (e : Edge) (x : Time) (s : State) :
    (handOff n e x s).capture = s.capture := (handOff_keeps n e x s).capture (by decide)
@[simp] theorem handOff_batch (n : Fin 8) (e : Edge) (x : Time) (s : State) :
    (handOff n e x s).batch = s.batch := (handOff_keeps n e x s).batch (by decide)
@[simp] theorem handOff_reports (n : Fin 8) (e : Edge) (x : Time) (s : State) :
    (handOff n e x s).reports = s.reports := (handOff_keeps n e x s).reports (by decide)
@[simp] theorem handOff_port (n : Fin 8) (e : Edge) (x : Time) (s : State) :
    (handOff n e x s).port = s.port := (handOff_keeps n e x s).port (by decide)
@[simp] theorem handOff_pins (n : Fin 8) (e : Edge) (x : Time) (s : State) :
    (handOff n e x s).pins = s.pins := (handOff_keeps n e x s).pins (by decide)
@[simp] theorem handOff_dataOut (n : Fin 8) (e : Edge) (x : Time) (s : State) :
    (handOff n e x s).dataOut = s.dataOut := (handOff_keeps n e x s).dataOut (by decide)
@[simp] theorem handOff_pending (n : Fin 8) (e : Edge) (x : Time) (s : State) :
    (handOff n e x s).pending = s.pending := (handOff_keeps n e x s).pending (by decide)

/-! ## Inputs -/

theorem offerCapture_keeps (n : Fin 8) (e : Edge) (x : Time) (f : Bool) (s : State) :
    Keeps [.capture, .irq] s (offerCapture n e x f s) := by
  unfold offerCapture; dsimp only; split
  · exact (withCapture_keeps _ _).mono
  · exact (withCapture_keeps _ _).andThen (withFlags_keeps _ _)

@[simp] theorem offerCapture_timebase (n : Fin 8) (e : Edge) (x : Time) (f : Bool) (s : State) :
    (offerCapture n e x f s).timebase = s.timebase := (offerCapture_keeps n e x f s).timebase (by decide)
@[simp] theorem offerCapture_agenda (n : Fin 8) (e : Edge) (x : Time) (f : Bool) (s : State) :
    (offerCapture n e x f s).agenda = s.agenda := (offerCapture_keeps n e x f s).agenda (by decide)
@[simp] theorem offerCapture_arbiter (n : Fin 8) (e : Edge) (x : Time) (f : Bool) (s : State) :
    (offerCapture n e x f s).arbiter = s.arbiter := (offerCapture_keeps n e x f s).arbiter (by decide)
@[simp] theorem offerCapture_lines (n : Fin 8) (e : Edge) (x : Time) (f : Bool) (s : State) :
    (offerCapture n e x f s).lines = s.lines := (offerCapture_keeps n e x f s).lines (by decide)
@[simp] theorem offerCapture_groups (n : Fin 8) (e : Edge) (x : Time) (f : Bool) (s : State) :
    (offerCapture n e x f s).groups = s.groups := (offerCapture_keeps n e x f s).groups (by decide)
@[simp] theorem offerCapture_reactions (n : Fin 8) (e : Edge) (x : Time) (f : Bool) (s : State) :
    (offerCapture n e x f s).reactions = s.reactions := (offerCapture_keeps n e x f s).reactions (by decide)
@[simp] theorem offerCapture_batch (n : Fin 8) (e : Edge) (x : Time) (f : Bool) (s : State) :
    (offerCapture n e x f s).batch = s.batch := (offerCapture_keeps n e x f s).batch (by decide)
@[simp] theorem offerCapture_reports (n : Fin 8) (e : Edge) (x : Time) (f : Bool) (s : State) :
    (offerCapture n e x f s).reports = s.reports := (offerCapture_keeps n e x f s).reports (by decide)
@[simp] theorem offerCapture_port (n : Fin 8) (e : Edge) (x : Time) (f : Bool) (s : State) :
    (offerCapture n e x f s).port = s.port := (offerCapture_keeps n e x f s).port (by decide)
@[simp] theorem offerCapture_pins (n : Fin 8) (e : Edge) (x : Time) (f : Bool) (s : State) :
    (offerCapture n e x f s).pins = s.pins := (offerCapture_keeps n e x f s).pins (by decide)
@[simp] theorem offerCapture_dataOut (n : Fin 8) (e : Edge) (x : Time) (f : Bool) (s : State) :
    (offerCapture n e x f s).dataOut = s.dataOut := (offerCapture_keeps n e x f s).dataOut (by decide)
@[simp] theorem offerCapture_pending (n : Fin 8) (e : Edge) (x : Time) (f : Bool) (s : State) :
    (offerCapture n e x f s).pending = s.pending := (offerCapture_keeps n e x f s).pending (by decide)

theorem acceptChange_keeps (n : Fin 8) (l : Bool) (x : Time) (s : State) :
    Keeps [.reactions, .irq, .groups, .lines, .arbiter, .capture] s (acceptChange n l x s) := by
  have h : Keeps [.capture, .reactions, .irq, .groups, .lines, .arbiter] s
      (handOff n (edgeTo l) x (setInput n { s.capture.inputs[n] with settled := l } s)) :=
    (setInput_keeps _ _ s).andThen (handOff_keeps _ _ _ _)
  unfold acceptChange; dsimp only
  (repeat' split)
  · exact h.andThen (offerCapture_keeps _ _ _ _ _)
  · exact h.mono
  · exact (setInput_keeps _ _ _).mono

@[simp] theorem acceptChange_timebase (n : Fin 8) (l : Bool) (x : Time) (s : State) :
    (acceptChange n l x s).timebase = s.timebase := (acceptChange_keeps n l x s).timebase (by decide)
@[simp] theorem acceptChange_agenda (n : Fin 8) (l : Bool) (x : Time) (s : State) :
    (acceptChange n l x s).agenda = s.agenda := (acceptChange_keeps n l x s).agenda (by decide)
@[simp] theorem acceptChange_batch (n : Fin 8) (l : Bool) (x : Time) (s : State) :
    (acceptChange n l x s).batch = s.batch := (acceptChange_keeps n l x s).batch (by decide)
@[simp] theorem acceptChange_reports (n : Fin 8) (l : Bool) (x : Time) (s : State) :
    (acceptChange n l x s).reports = s.reports := (acceptChange_keeps n l x s).reports (by decide)
@[simp] theorem acceptChange_port (n : Fin 8) (l : Bool) (x : Time) (s : State) :
    (acceptChange n l x s).port = s.port := (acceptChange_keeps n l x s).port (by decide)
@[simp] theorem acceptChange_pins (n : Fin 8) (l : Bool) (x : Time) (s : State) :
    (acceptChange n l x s).pins = s.pins := (acceptChange_keeps n l x s).pins (by decide)
@[simp] theorem acceptChange_dataOut (n : Fin 8) (l : Bool) (x : Time) (s : State) :
    (acceptChange n l x s).dataOut = s.dataOut := (acceptChange_keeps n l x s).dataOut (by decide)
@[simp] theorem acceptChange_pending (n : Fin 8) (l : Bool) (x : Time) (s : State) :
    (acceptChange n l x s).pending = s.pending := (acceptChange_keeps n l x s).pending (by decide)

theorem sampleInput_keeps (n : Fin 8) (l : Bool) (s : State) :
    Keeps [.reactions, .irq, .groups, .lines, .arbiter, .capture] s (sampleInput n l s) := by
  unfold sampleInput; dsimp only
  (repeat' split) <;> first
    | exact (setInput_keeps _ _ _).mono
    | exact (setInput_keeps _ _ _).andThen (acceptChange_keeps _ _ _ _)

@[simp] theorem sampleInput_timebase (n : Fin 8) (l : Bool) (s : State) :
    (sampleInput n l s).timebase = s.timebase := (sampleInput_keeps n l s).timebase (by decide)
@[simp] theorem sampleInput_agenda (n : Fin 8) (l : Bool) (s : State) :
    (sampleInput n l s).agenda = s.agenda := (sampleInput_keeps n l s).agenda (by decide)
@[simp] theorem sampleInput_batch (n : Fin 8) (l : Bool) (s : State) :
    (sampleInput n l s).batch = s.batch := (sampleInput_keeps n l s).batch (by decide)
@[simp] theorem sampleInput_reports (n : Fin 8) (l : Bool) (s : State) :
    (sampleInput n l s).reports = s.reports := (sampleInput_keeps n l s).reports (by decide)
@[simp] theorem sampleInput_port (n : Fin 8) (l : Bool) (s : State) :
    (sampleInput n l s).port = s.port := (sampleInput_keeps n l s).port (by decide)
@[simp] theorem sampleInput_pins (n : Fin 8) (l : Bool) (s : State) :
    (sampleInput n l s).pins = s.pins := (sampleInput_keeps n l s).pins (by decide)
@[simp] theorem sampleInput_dataOut (n : Fin 8) (l : Bool) (s : State) :
    (sampleInput n l s).dataOut = s.dataOut := (sampleInput_keeps n l s).dataOut (by decide)
@[simp] theorem sampleInput_pending (n : Fin 8) (l : Bool) (s : State) :
    (sampleInput n l s).pending = s.pending := (sampleInput_keeps n l s).pending (by decide)

theorem filterStep_keeps (n : Fin 8) (l : Bool) (s : State) :
    Keeps [.reactions, .irq, .groups, .lines, .arbiter, .capture] s (filterStep n l s) := by
  unfold filterStep; dsimp only; split
  · exact (setInput_keeps _ _ _).andThen (acceptChange_keeps _ _ _ _)
  · exact (setInput_keeps _ _ _).mono

@[simp] theorem filterStep_timebase (n : Fin 8) (l : Bool) (s : State) :
    (filterStep n l s).timebase = s.timebase := (filterStep_keeps n l s).timebase (by decide)
@[simp] theorem filterStep_agenda (n : Fin 8) (l : Bool) (s : State) :
    (filterStep n l s).agenda = s.agenda := (filterStep_keeps n l s).agenda (by decide)
@[simp] theorem filterStep_batch (n : Fin 8) (l : Bool) (s : State) :
    (filterStep n l s).batch = s.batch := (filterStep_keeps n l s).batch (by decide)
@[simp] theorem filterStep_reports (n : Fin 8) (l : Bool) (s : State) :
    (filterStep n l s).reports = s.reports := (filterStep_keeps n l s).reports (by decide)
@[simp] theorem filterStep_port (n : Fin 8) (l : Bool) (s : State) :
    (filterStep n l s).port = s.port := (filterStep_keeps n l s).port (by decide)
@[simp] theorem filterStep_pins (n : Fin 8) (l : Bool) (s : State) :
    (filterStep n l s).pins = s.pins := (filterStep_keeps n l s).pins (by decide)
@[simp] theorem filterStep_dataOut (n : Fin 8) (l : Bool) (s : State) :
    (filterStep n l s).dataOut = s.dataOut := (filterStep_keeps n l s).dataOut (by decide)
@[simp] theorem filterStep_pending (n : Fin 8) (l : Bool) (s : State) :
    (filterStep n l s).pending = s.pending := (filterStep_keeps n l s).pending (by decide)

theorem setInputPin_keeps (n : Fin 8) (l : Bool) (s : State) : Keeps [.pins] s (setInputPin n l s) := withPins_keeps _ s


theorem filterMoment_keeps (v : BitVec 8) (s : State) :
    Keeps [.reactions, .irq, .groups, .lines, .arbiter, .capture, .pins] s (filterMoment v s) := 
  (withCapture_keeps _ s).andThen (Keeps.foldl (fun t n => by
    split
    · exact (setInputPin_keeps _ _ _).andThen (filterStep_keeps _ _ _)
    · exact Keeps.refl _ _) _ _) (cs := [.reactions, .irq, .groups, .lines, .arbiter, .capture, .pins])

@[simp] theorem filterMoment_timebase (v : BitVec 8) (s : State) :
    (filterMoment v s).timebase = s.timebase := (filterMoment_keeps v s).timebase (by decide)
@[simp] theorem filterMoment_agenda (v : BitVec 8) (s : State) :
    (filterMoment v s).agenda = s.agenda := (filterMoment_keeps v s).agenda (by decide)
@[simp] theorem filterMoment_batch (v : BitVec 8) (s : State) :
    (filterMoment v s).batch = s.batch := (filterMoment_keeps v s).batch (by decide)
@[simp] theorem filterMoment_reports (v : BitVec 8) (s : State) :
    (filterMoment v s).reports = s.reports := (filterMoment_keeps v s).reports (by decide)
@[simp] theorem filterMoment_port (v : BitVec 8) (s : State) :
    (filterMoment v s).port = s.port := (filterMoment_keeps v s).port (by decide)
@[simp] theorem filterMoment_dataOut (v : BitVec 8) (s : State) :
    (filterMoment v s).dataOut = s.dataOut := (filterMoment_keeps v s).dataOut (by decide)
@[simp] theorem filterMoment_pending (v : BitVec 8) (s : State) :
    (filterMoment v s).pending = s.pending := (filterMoment_keeps v s).pending (by decide)

theorem clockInputs_keeps (s : State) :
    Keeps [.reactions, .irq, .groups, .lines, .arbiter, .capture] s (clockInputs s) := 
  (withCapture_keeps _ s).andThen (Keeps.foldl (fun t n => by
    split
    · exact filterStep_keeps _ _ _
    · exact sampleInput_keeps _ _ _) _ _) (cs := [.reactions, .irq, .groups, .lines, .arbiter, .capture])

@[simp] theorem clockInputs_timebase (s : State) :
    (clockInputs s).timebase = s.timebase := (clockInputs_keeps s).timebase (by decide)
@[simp] theorem clockInputs_agenda (s : State) :
    (clockInputs s).agenda = s.agenda := (clockInputs_keeps s).agenda (by decide)
@[simp] theorem clockInputs_batch (s : State) :
    (clockInputs s).batch = s.batch := (clockInputs_keeps s).batch (by decide)
@[simp] theorem clockInputs_reports (s : State) :
    (clockInputs s).reports = s.reports := (clockInputs_keeps s).reports (by decide)
@[simp] theorem clockInputs_port (s : State) :
    (clockInputs s).port = s.port := (clockInputs_keeps s).port (by decide)
@[simp] theorem clockInputs_pins (s : State) :
    (clockInputs s).pins = s.pins := (clockInputs_keeps s).pins (by decide)
@[simp] theorem clockInputs_dataOut (s : State) :
    (clockInputs s).dataOut = s.dataOut := (clockInputs_keeps s).dataOut (by decide)
@[simp] theorem clockInputs_pending (s : State) :
    (clockInputs s).pending = s.pending := (clockInputs_keeps s).pending (by decide)

theorem sampleTripPin_keeps (pin : Fin 2) (s : State) :
    Keeps [.groups, .lines, .arbiter, .irq, .pins] s (sampleTripPin pin s) := by
  unfold sampleTripPin; dsimp only; split
  · exact (withPins_keeps _ _).andThen (pinTrip_keeps _ _)
  · exact (withPins_keeps _ _).mono

@[simp] theorem sampleTripPin_timebase (pin : Fin 2) (s : State) :
    (sampleTripPin pin s).timebase = s.timebase := (sampleTripPin_keeps pin s).timebase (by decide)
@[simp] theorem sampleTripPin_agenda (pin : Fin 2) (s : State) :
    (sampleTripPin pin s).agenda = s.agenda := (sampleTripPin_keeps pin s).agenda (by decide)
@[simp] theorem sampleTripPin_capture (pin : Fin 2) (s : State) :
    (sampleTripPin pin s).capture = s.capture := (sampleTripPin_keeps pin s).capture (by decide)
@[simp] theorem sampleTripPin_reactions (pin : Fin 2) (s : State) :
    (sampleTripPin pin s).reactions = s.reactions := (sampleTripPin_keeps pin s).reactions (by decide)
@[simp] theorem sampleTripPin_batch (pin : Fin 2) (s : State) :
    (sampleTripPin pin s).batch = s.batch := (sampleTripPin_keeps pin s).batch (by decide)
@[simp] theorem sampleTripPin_reports (pin : Fin 2) (s : State) :
    (sampleTripPin pin s).reports = s.reports := (sampleTripPin_keeps pin s).reports (by decide)
@[simp] theorem sampleTripPin_port (pin : Fin 2) (s : State) :
    (sampleTripPin pin s).port = s.port := (sampleTripPin_keeps pin s).port (by decide)
@[simp] theorem sampleTripPin_dataOut (pin : Fin 2) (s : State) :
    (sampleTripPin pin s).dataOut = s.dataOut := (sampleTripPin_keeps pin s).dataOut (by decide)
@[simp] theorem sampleTripPin_pending (pin : Fin 2) (s : State) :
    (sampleTripPin pin s).pending = s.pending := (sampleTripPin_keeps pin s).pending (by decide)

/-! ## The timebase and the core clock -/

theorem advanceTime_keeps (s : State) : Keeps [.timebase, .lines] s (advanceTime s) := 
  (endReachedGuards_keeps s).andThen (withTimebase_keeps _ _)

@[simp] theorem advanceTime_agenda (s : State) :
    (advanceTime s).agenda = s.agenda := (advanceTime_keeps s).agenda (by decide)
@[simp] theorem advanceTime_arbiter (s : State) :
    (advanceTime s).arbiter = s.arbiter := (advanceTime_keeps s).arbiter (by decide)
@[simp] theorem advanceTime_groups (s : State) :
    (advanceTime s).groups = s.groups := (advanceTime_keeps s).groups (by decide)
@[simp] theorem advanceTime_capture (s : State) :
    (advanceTime s).capture = s.capture := (advanceTime_keeps s).capture (by decide)
@[simp] theorem advanceTime_reactions (s : State) :
    (advanceTime s).reactions = s.reactions := (advanceTime_keeps s).reactions (by decide)
@[simp] theorem advanceTime_batch (s : State) :
    (advanceTime s).batch = s.batch := (advanceTime_keeps s).batch (by decide)
@[simp] theorem advanceTime_reports (s : State) :
    (advanceTime s).reports = s.reports := (advanceTime_keeps s).reports (by decide)
@[simp] theorem advanceTime_port (s : State) :
    (advanceTime s).port = s.port := (advanceTime_keeps s).port (by decide)
@[simp] theorem advanceTime_irq (s : State) :
    (advanceTime s).irq = s.irq := (advanceTime_keeps s).irq (by decide)
@[simp] theorem advanceTime_pins (s : State) :
    (advanceTime s).pins = s.pins := (advanceTime_keeps s).pins (by decide)
@[simp] theorem advanceTime_dataOut (s : State) :
    (advanceTime s).dataOut = s.dataOut := (advanceTime_keeps s).dataOut (by decide)
@[simp] theorem advanceTime_pending (s : State) :
    (advanceTime s).pending = s.pending := (advanceTime_keeps s).pending (by decide)

theorem countSourceEvent_keeps (x : TickSource) (s : State) :
    Keeps [.timebase, .lines] s (countSourceEvent x s) := by
  unfold countSourceEvent
  split
  · split
    · exact advanceTime_keeps _
    · exact (withTimebase_keeps _ _).mono
  · exact Keeps.refl _ _

@[simp] theorem countSourceEvent_agenda (x : TickSource) (s : State) :
    (countSourceEvent x s).agenda = s.agenda := (countSourceEvent_keeps x s).agenda (by decide)
@[simp] theorem countSourceEvent_arbiter (x : TickSource) (s : State) :
    (countSourceEvent x s).arbiter = s.arbiter := (countSourceEvent_keeps x s).arbiter (by decide)
@[simp] theorem countSourceEvent_groups (x : TickSource) (s : State) :
    (countSourceEvent x s).groups = s.groups := (countSourceEvent_keeps x s).groups (by decide)
@[simp] theorem countSourceEvent_capture (x : TickSource) (s : State) :
    (countSourceEvent x s).capture = s.capture := (countSourceEvent_keeps x s).capture (by decide)
@[simp] theorem countSourceEvent_reactions (x : TickSource) (s : State) :
    (countSourceEvent x s).reactions = s.reactions := (countSourceEvent_keeps x s).reactions (by decide)
@[simp] theorem countSourceEvent_batch (x : TickSource) (s : State) :
    (countSourceEvent x s).batch = s.batch := (countSourceEvent_keeps x s).batch (by decide)
@[simp] theorem countSourceEvent_reports (x : TickSource) (s : State) :
    (countSourceEvent x s).reports = s.reports := (countSourceEvent_keeps x s).reports (by decide)
@[simp] theorem countSourceEvent_port (x : TickSource) (s : State) :
    (countSourceEvent x s).port = s.port := (countSourceEvent_keeps x s).port (by decide)
@[simp] theorem countSourceEvent_irq (x : TickSource) (s : State) :
    (countSourceEvent x s).irq = s.irq := (countSourceEvent_keeps x s).irq (by decide)
@[simp] theorem countSourceEvent_pins (x : TickSource) (s : State) :
    (countSourceEvent x s).pins = s.pins := (countSourceEvent_keeps x s).pins (by decide)
@[simp] theorem countSourceEvent_dataOut (x : TickSource) (s : State) :
    (countSourceEvent x s).dataOut = s.dataOut := (countSourceEvent_keeps x s).dataOut (by decide)
@[simp] theorem countSourceEvent_pending (x : TickSource) (s : State) :
    (countSourceEvent x s).pending = s.pending := (countSourceEvent_keeps x s).pending (by decide)

theorem clockTimebase_keeps (s : State) : Keeps [.timebase, .lines, .pins] s (clockTimebase s) := by
  unfold clockTimebase sampleTclk; dsimp only; split
  · exact (((withPins_keeps _ s).andThen (countSourceEvent_keeps _ _)
      (ds := [.timebase, .lines, .pins])).andThen (countSourceEvent_keeps _ _)
      (ds := [.timebase, .lines, .pins])).andThen (endReachedGuards_keeps _)
  · exact ((withPins_keeps _ s).andThen (countSourceEvent_keeps _ _)
      (ds := [.timebase, .lines, .pins])).andThen (endReachedGuards_keeps _)

@[simp] theorem clockTimebase_agenda (s : State) :
    (clockTimebase s).agenda = s.agenda := (clockTimebase_keeps s).agenda (by decide)
@[simp] theorem clockTimebase_arbiter (s : State) :
    (clockTimebase s).arbiter = s.arbiter := (clockTimebase_keeps s).arbiter (by decide)
@[simp] theorem clockTimebase_groups (s : State) :
    (clockTimebase s).groups = s.groups := (clockTimebase_keeps s).groups (by decide)
@[simp] theorem clockTimebase_capture (s : State) :
    (clockTimebase s).capture = s.capture := (clockTimebase_keeps s).capture (by decide)
@[simp] theorem clockTimebase_reactions (s : State) :
    (clockTimebase s).reactions = s.reactions := (clockTimebase_keeps s).reactions (by decide)
@[simp] theorem clockTimebase_batch (s : State) :
    (clockTimebase s).batch = s.batch := (clockTimebase_keeps s).batch (by decide)
@[simp] theorem clockTimebase_reports (s : State) :
    (clockTimebase s).reports = s.reports := (clockTimebase_keeps s).reports (by decide)
@[simp] theorem clockTimebase_port (s : State) :
    (clockTimebase s).port = s.port := (clockTimebase_keeps s).port (by decide)
@[simp] theorem clockTimebase_irq (s : State) :
    (clockTimebase s).irq = s.irq := (clockTimebase_keeps s).irq (by decide)
@[simp] theorem clockTimebase_dataOut (s : State) :
    (clockTimebase s).dataOut = s.dataOut := (clockTimebase_keeps s).dataOut (by decide)
@[simp] theorem clockTimebase_pending (s : State) :
    (clockTimebase s).pending = s.pending := (clockTimebase_keeps s).pending (by decide)

theorem writeTbCtrl_keeps (r : Bool) (x : TickSource) (p : BitVec 8) (s : State) :
    Keeps [.timebase, .irq] s (writeTbCtrl r x p s) := by
  unfold writeTbCtrl; dsimp only
  (repeat' split) <;> first
    | exact Keeps.refl _ _ | exact (withTimebase_keeps _ _).mono | exact (refuse_keeps _ _ _).mono

@[simp] theorem writeTbCtrl_agenda (r : Bool) (x : TickSource) (p : BitVec 8) (s : State) :
    (writeTbCtrl r x p s).agenda = s.agenda := (writeTbCtrl_keeps r x p s).agenda (by decide)
@[simp] theorem writeTbCtrl_arbiter (r : Bool) (x : TickSource) (p : BitVec 8) (s : State) :
    (writeTbCtrl r x p s).arbiter = s.arbiter := (writeTbCtrl_keeps r x p s).arbiter (by decide)
@[simp] theorem writeTbCtrl_lines (r : Bool) (x : TickSource) (p : BitVec 8) (s : State) :
    (writeTbCtrl r x p s).lines = s.lines := (writeTbCtrl_keeps r x p s).lines (by decide)
@[simp] theorem writeTbCtrl_groups (r : Bool) (x : TickSource) (p : BitVec 8) (s : State) :
    (writeTbCtrl r x p s).groups = s.groups := (writeTbCtrl_keeps r x p s).groups (by decide)
@[simp] theorem writeTbCtrl_capture (r : Bool) (x : TickSource) (p : BitVec 8) (s : State) :
    (writeTbCtrl r x p s).capture = s.capture := (writeTbCtrl_keeps r x p s).capture (by decide)
@[simp] theorem writeTbCtrl_reactions (r : Bool) (x : TickSource) (p : BitVec 8) (s : State) :
    (writeTbCtrl r x p s).reactions = s.reactions := (writeTbCtrl_keeps r x p s).reactions (by decide)
@[simp] theorem writeTbCtrl_batch (r : Bool) (x : TickSource) (p : BitVec 8) (s : State) :
    (writeTbCtrl r x p s).batch = s.batch := (writeTbCtrl_keeps r x p s).batch (by decide)
@[simp] theorem writeTbCtrl_reports (r : Bool) (x : TickSource) (p : BitVec 8) (s : State) :
    (writeTbCtrl r x p s).reports = s.reports := (writeTbCtrl_keeps r x p s).reports (by decide)
@[simp] theorem writeTbCtrl_port (r : Bool) (x : TickSource) (p : BitVec 8) (s : State) :
    (writeTbCtrl r x p s).port = s.port := (writeTbCtrl_keeps r x p s).port (by decide)
@[simp] theorem writeTbCtrl_pins (r : Bool) (x : TickSource) (p : BitVec 8) (s : State) :
    (writeTbCtrl r x p s).pins = s.pins := (writeTbCtrl_keeps r x p s).pins (by decide)
@[simp] theorem writeTbCtrl_dataOut (r : Bool) (x : TickSource) (p : BitVec 8) (s : State) :
    (writeTbCtrl r x p s).dataOut = s.dataOut := (writeTbCtrl_keeps r x p s).dataOut (by decide)
@[simp] theorem writeTbCtrl_pending (r : Bool) (x : TickSource) (p : BitVec 8) (s : State) :
    (writeTbCtrl r x p s).pending = s.pending := (writeTbCtrl_keeps r x p s).pending (by decide)

theorem writeTimeLo_keeps (v : Word) (s : State) :
    Keeps [.timebase, .lines, .irq] s (writeTimeLo v s) := by
  unfold writeTimeLo; split
  · exact (withLines_keeps _ _).andThen (withTimebase_keeps _ _)
  · exact (refuse_keeps _ _ _).mono

@[simp] theorem writeTimeLo_agenda (v : Word) (s : State) :
    (writeTimeLo v s).agenda = s.agenda := (writeTimeLo_keeps v s).agenda (by decide)
@[simp] theorem writeTimeLo_arbiter (v : Word) (s : State) :
    (writeTimeLo v s).arbiter = s.arbiter := (writeTimeLo_keeps v s).arbiter (by decide)
@[simp] theorem writeTimeLo_groups (v : Word) (s : State) :
    (writeTimeLo v s).groups = s.groups := (writeTimeLo_keeps v s).groups (by decide)
@[simp] theorem writeTimeLo_capture (v : Word) (s : State) :
    (writeTimeLo v s).capture = s.capture := (writeTimeLo_keeps v s).capture (by decide)
@[simp] theorem writeTimeLo_reactions (v : Word) (s : State) :
    (writeTimeLo v s).reactions = s.reactions := (writeTimeLo_keeps v s).reactions (by decide)
@[simp] theorem writeTimeLo_batch (v : Word) (s : State) :
    (writeTimeLo v s).batch = s.batch := (writeTimeLo_keeps v s).batch (by decide)
@[simp] theorem writeTimeLo_reports (v : Word) (s : State) :
    (writeTimeLo v s).reports = s.reports := (writeTimeLo_keeps v s).reports (by decide)
@[simp] theorem writeTimeLo_port (v : Word) (s : State) :
    (writeTimeLo v s).port = s.port := (writeTimeLo_keeps v s).port (by decide)
@[simp] theorem writeTimeLo_pins (v : Word) (s : State) :
    (writeTimeLo v s).pins = s.pins := (writeTimeLo_keeps v s).pins (by decide)
@[simp] theorem writeTimeLo_dataOut (v : Word) (s : State) :
    (writeTimeLo v s).dataOut = s.dataOut := (writeTimeLo_keeps v s).dataOut (by decide)
@[simp] theorem writeTimeLo_pending (v : Word) (s : State) :
    (writeTimeLo v s).pending = s.pending := (writeTimeLo_keeps v s).pending (by decide)

/-! ## Answers to commands -/

theorem stage_keeps (e : Edit) (s : State) : Keeps [.batch] s ((stage e s).2) := by
  unfold stage; dsimp only
  (repeat' split) <;> first | exact Keeps.refl _ _ | exact withBatch_keeps _ _

@[simp] theorem stage_timebase (e : Edit) (s : State) :
    ((stage e s).2).timebase = s.timebase := (stage_keeps e s).timebase (by decide)
@[simp] theorem stage_agenda (e : Edit) (s : State) :
    ((stage e s).2).agenda = s.agenda := (stage_keeps e s).agenda (by decide)
@[simp] theorem stage_arbiter (e : Edit) (s : State) :
    ((stage e s).2).arbiter = s.arbiter := (stage_keeps e s).arbiter (by decide)
@[simp] theorem stage_lines (e : Edit) (s : State) :
    ((stage e s).2).lines = s.lines := (stage_keeps e s).lines (by decide)
@[simp] theorem stage_groups (e : Edit) (s : State) :
    ((stage e s).2).groups = s.groups := (stage_keeps e s).groups (by decide)
@[simp] theorem stage_capture (e : Edit) (s : State) :
    ((stage e s).2).capture = s.capture := (stage_keeps e s).capture (by decide)
@[simp] theorem stage_reactions (e : Edit) (s : State) :
    ((stage e s).2).reactions = s.reactions := (stage_keeps e s).reactions (by decide)
@[simp] theorem stage_reports (e : Edit) (s : State) :
    ((stage e s).2).reports = s.reports := (stage_keeps e s).reports (by decide)
@[simp] theorem stage_port (e : Edit) (s : State) :
    ((stage e s).2).port = s.port := (stage_keeps e s).port (by decide)
@[simp] theorem stage_irq (e : Edit) (s : State) :
    ((stage e s).2).irq = s.irq := (stage_keeps e s).irq (by decide)
@[simp] theorem stage_pins (e : Edit) (s : State) :
    ((stage e s).2).pins = s.pins := (stage_keeps e s).pins (by decide)
@[simp] theorem stage_dataOut (e : Edit) (s : State) :
    ((stage e s).2).dataOut = s.dataOut := (stage_keeps e s).dataOut (by decide)
@[simp] theorem stage_pending (e : Edit) (s : State) :
    ((stage e s).2).pending = s.pending := (stage_keeps e s).pending (by decide)

theorem commitNow_keeps (s : State) : Keeps [.batch, .arbiter] s ((commitNow s).2) := by
  unfold commitNow; split <;> first
    | exact Keeps.refl _ _ | exact (withBatch_keeps _ _).andThen (withArbiter_keeps _ _)

@[simp] theorem commitNow_timebase (s : State) :
    ((commitNow s).2).timebase = s.timebase := (commitNow_keeps s).timebase (by decide)
@[simp] theorem commitNow_agenda (s : State) :
    ((commitNow s).2).agenda = s.agenda := (commitNow_keeps s).agenda (by decide)
@[simp] theorem commitNow_lines (s : State) :
    ((commitNow s).2).lines = s.lines := (commitNow_keeps s).lines (by decide)
@[simp] theorem commitNow_groups (s : State) :
    ((commitNow s).2).groups = s.groups := (commitNow_keeps s).groups (by decide)
@[simp] theorem commitNow_capture (s : State) :
    ((commitNow s).2).capture = s.capture := (commitNow_keeps s).capture (by decide)
@[simp] theorem commitNow_reactions (s : State) :
    ((commitNow s).2).reactions = s.reactions := (commitNow_keeps s).reactions (by decide)
@[simp] theorem commitNow_reports (s : State) :
    ((commitNow s).2).reports = s.reports := (commitNow_keeps s).reports (by decide)
@[simp] theorem commitNow_port (s : State) :
    ((commitNow s).2).port = s.port := (commitNow_keeps s).port (by decide)
@[simp] theorem commitNow_irq (s : State) :
    ((commitNow s).2).irq = s.irq := (commitNow_keeps s).irq (by decide)
@[simp] theorem commitNow_pins (s : State) :
    ((commitNow s).2).pins = s.pins := (commitNow_keeps s).pins (by decide)
@[simp] theorem commitNow_dataOut (s : State) :
    ((commitNow s).2).dataOut = s.dataOut := (commitNow_keeps s).dataOut (by decide)
@[simp] theorem commitNow_pending (s : State) :
    ((commitNow s).2).pending = s.pending := (commitNow_keeps s).pending (by decide)

theorem commitEntry_keeps (h : Handle) (s : State) : Keeps [.batch] s ((commitEntry h s).2) := by
  unfold commitEntry
  (repeat' split) <;> first | exact Keeps.refl _ _ | exact withBatch_keeps _ _

@[simp] theorem commitEntry_timebase (h : Handle) (s : State) :
    ((commitEntry h s).2).timebase = s.timebase := (commitEntry_keeps h s).timebase (by decide)
@[simp] theorem commitEntry_agenda (h : Handle) (s : State) :
    ((commitEntry h s).2).agenda = s.agenda := (commitEntry_keeps h s).agenda (by decide)
@[simp] theorem commitEntry_arbiter (h : Handle) (s : State) :
    ((commitEntry h s).2).arbiter = s.arbiter := (commitEntry_keeps h s).arbiter (by decide)
@[simp] theorem commitEntry_lines (h : Handle) (s : State) :
    ((commitEntry h s).2).lines = s.lines := (commitEntry_keeps h s).lines (by decide)
@[simp] theorem commitEntry_groups (h : Handle) (s : State) :
    ((commitEntry h s).2).groups = s.groups := (commitEntry_keeps h s).groups (by decide)
@[simp] theorem commitEntry_capture (h : Handle) (s : State) :
    ((commitEntry h s).2).capture = s.capture := (commitEntry_keeps h s).capture (by decide)
@[simp] theorem commitEntry_reactions (h : Handle) (s : State) :
    ((commitEntry h s).2).reactions = s.reactions := (commitEntry_keeps h s).reactions (by decide)
@[simp] theorem commitEntry_reports (h : Handle) (s : State) :
    ((commitEntry h s).2).reports = s.reports := (commitEntry_keeps h s).reports (by decide)
@[simp] theorem commitEntry_port (h : Handle) (s : State) :
    ((commitEntry h s).2).port = s.port := (commitEntry_keeps h s).port (by decide)
@[simp] theorem commitEntry_irq (h : Handle) (s : State) :
    ((commitEntry h s).2).irq = s.irq := (commitEntry_keeps h s).irq (by decide)
@[simp] theorem commitEntry_pins (h : Handle) (s : State) :
    ((commitEntry h s).2).pins = s.pins := (commitEntry_keeps h s).pins (by decide)
@[simp] theorem commitEntry_dataOut (h : Handle) (s : State) :
    ((commitEntry h s).2).dataOut = s.dataOut := (commitEntry_keeps h s).dataOut (by decide)
@[simp] theorem commitEntry_pending (h : Handle) (s : State) :
    ((commitEntry h s).2).pending = s.pending := (commitEntry_keeps h s).pending (by decide)

theorem discard_keeps (s : State) : Keeps [.batch, .arbiter] s ((discard s).2) := by
  unfold discard; split <;> first
    | exact Keeps.refl _ _ | exact (withBatch_keeps _ _).mono
    | exact (withBatch_keeps _ _).andThen (withArbiter_keeps _ _)

@[simp] theorem discard_timebase (s : State) :
    ((discard s).2).timebase = s.timebase := (discard_keeps s).timebase (by decide)
@[simp] theorem discard_agenda (s : State) :
    ((discard s).2).agenda = s.agenda := (discard_keeps s).agenda (by decide)
@[simp] theorem discard_lines (s : State) :
    ((discard s).2).lines = s.lines := (discard_keeps s).lines (by decide)
@[simp] theorem discard_groups (s : State) :
    ((discard s).2).groups = s.groups := (discard_keeps s).groups (by decide)
@[simp] theorem discard_capture (s : State) :
    ((discard s).2).capture = s.capture := (discard_keeps s).capture (by decide)
@[simp] theorem discard_reactions (s : State) :
    ((discard s).2).reactions = s.reactions := (discard_keeps s).reactions (by decide)
@[simp] theorem discard_reports (s : State) :
    ((discard s).2).reports = s.reports := (discard_keeps s).reports (by decide)
@[simp] theorem discard_port (s : State) :
    ((discard s).2).port = s.port := (discard_keeps s).port (by decide)
@[simp] theorem discard_irq (s : State) :
    ((discard s).2).irq = s.irq := (discard_keeps s).irq (by decide)
@[simp] theorem discard_pins (s : State) :
    ((discard s).2).pins = s.pins := (discard_keeps s).pins (by decide)
@[simp] theorem discard_dataOut (s : State) :
    ((discard s).2).dataOut = s.dataOut := (discard_keeps s).dataOut (by decide)
@[simp] theorem discard_pending (s : State) :
    ((discard s).2).pending = s.pending := (discard_keeps s).pending (by decide)

theorem startGroup_keeps (g : Fin 4) (s : State) : Keeps [.groups] s ((startGroup g s).2) := by
  unfold startGroup
  (repeat' split) <;> first | exact Keeps.refl _ _ | exact withGroup_keeps _ _ _

@[simp] theorem startGroup_timebase (g : Fin 4) (s : State) :
    ((startGroup g s).2).timebase = s.timebase := (startGroup_keeps g s).timebase (by decide)
@[simp] theorem startGroup_agenda (g : Fin 4) (s : State) :
    ((startGroup g s).2).agenda = s.agenda := (startGroup_keeps g s).agenda (by decide)
@[simp] theorem startGroup_arbiter (g : Fin 4) (s : State) :
    ((startGroup g s).2).arbiter = s.arbiter := (startGroup_keeps g s).arbiter (by decide)
@[simp] theorem startGroup_lines (g : Fin 4) (s : State) :
    ((startGroup g s).2).lines = s.lines := (startGroup_keeps g s).lines (by decide)
@[simp] theorem startGroup_capture (g : Fin 4) (s : State) :
    ((startGroup g s).2).capture = s.capture := (startGroup_keeps g s).capture (by decide)
@[simp] theorem startGroup_reactions (g : Fin 4) (s : State) :
    ((startGroup g s).2).reactions = s.reactions := (startGroup_keeps g s).reactions (by decide)
@[simp] theorem startGroup_batch (g : Fin 4) (s : State) :
    ((startGroup g s).2).batch = s.batch := (startGroup_keeps g s).batch (by decide)
@[simp] theorem startGroup_reports (g : Fin 4) (s : State) :
    ((startGroup g s).2).reports = s.reports := (startGroup_keeps g s).reports (by decide)
@[simp] theorem startGroup_port (g : Fin 4) (s : State) :
    ((startGroup g s).2).port = s.port := (startGroup_keeps g s).port (by decide)
@[simp] theorem startGroup_irq (g : Fin 4) (s : State) :
    ((startGroup g s).2).irq = s.irq := (startGroup_keeps g s).irq (by decide)
@[simp] theorem startGroup_pins (g : Fin 4) (s : State) :
    ((startGroup g s).2).pins = s.pins := (startGroup_keeps g s).pins (by decide)
@[simp] theorem startGroup_dataOut (g : Fin 4) (s : State) :
    ((startGroup g s).2).dataOut = s.dataOut := (startGroup_keeps g s).dataOut (by decide)
@[simp] theorem startGroup_pending (g : Fin 4) (s : State) :
    ((startGroup g s).2).pending = s.pending := (startGroup_keeps g s).pending (by decide)

theorem stopGroup_keeps (g : Fin 4) (s : State) : Keeps [.groups] s ((stopGroup g s).2) := by
  unfold stopGroup
  (repeat' split) <;> first | exact Keeps.refl _ _ | exact withGroup_keeps _ _ _

@[simp] theorem stopGroup_timebase (g : Fin 4) (s : State) :
    ((stopGroup g s).2).timebase = s.timebase := (stopGroup_keeps g s).timebase (by decide)
@[simp] theorem stopGroup_agenda (g : Fin 4) (s : State) :
    ((stopGroup g s).2).agenda = s.agenda := (stopGroup_keeps g s).agenda (by decide)
@[simp] theorem stopGroup_arbiter (g : Fin 4) (s : State) :
    ((stopGroup g s).2).arbiter = s.arbiter := (stopGroup_keeps g s).arbiter (by decide)
@[simp] theorem stopGroup_lines (g : Fin 4) (s : State) :
    ((stopGroup g s).2).lines = s.lines := (stopGroup_keeps g s).lines (by decide)
@[simp] theorem stopGroup_capture (g : Fin 4) (s : State) :
    ((stopGroup g s).2).capture = s.capture := (stopGroup_keeps g s).capture (by decide)
@[simp] theorem stopGroup_reactions (g : Fin 4) (s : State) :
    ((stopGroup g s).2).reactions = s.reactions := (stopGroup_keeps g s).reactions (by decide)
@[simp] theorem stopGroup_batch (g : Fin 4) (s : State) :
    ((stopGroup g s).2).batch = s.batch := (stopGroup_keeps g s).batch (by decide)
@[simp] theorem stopGroup_reports (g : Fin 4) (s : State) :
    ((stopGroup g s).2).reports = s.reports := (stopGroup_keeps g s).reports (by decide)
@[simp] theorem stopGroup_port (g : Fin 4) (s : State) :
    ((stopGroup g s).2).port = s.port := (stopGroup_keeps g s).port (by decide)
@[simp] theorem stopGroup_irq (g : Fin 4) (s : State) :
    ((stopGroup g s).2).irq = s.irq := (stopGroup_keeps g s).irq (by decide)
@[simp] theorem stopGroup_pins (g : Fin 4) (s : State) :
    ((stopGroup g s).2).pins = s.pins := (stopGroup_keeps g s).pins (by decide)
@[simp] theorem stopGroup_dataOut (g : Fin 4) (s : State) :
    ((stopGroup g s).2).dataOut = s.dataOut := (stopGroup_keeps g s).dataOut (by decide)
@[simp] theorem stopGroup_pending (g : Fin 4) (s : State) :
    ((stopGroup g s).2).pending = s.pending := (stopGroup_keeps g s).pending (by decide)

theorem releaseGroup_keeps (g : Fin 4) (s : State) : Keeps [.groups] s ((releaseGroup g s).2) := by
  unfold releaseGroup
  (repeat' split) <;> first | exact Keeps.refl _ _ | exact withGroup_keeps _ _ _

@[simp] theorem releaseGroup_timebase (g : Fin 4) (s : State) :
    ((releaseGroup g s).2).timebase = s.timebase := (releaseGroup_keeps g s).timebase (by decide)
@[simp] theorem releaseGroup_agenda (g : Fin 4) (s : State) :
    ((releaseGroup g s).2).agenda = s.agenda := (releaseGroup_keeps g s).agenda (by decide)
@[simp] theorem releaseGroup_arbiter (g : Fin 4) (s : State) :
    ((releaseGroup g s).2).arbiter = s.arbiter := (releaseGroup_keeps g s).arbiter (by decide)
@[simp] theorem releaseGroup_lines (g : Fin 4) (s : State) :
    ((releaseGroup g s).2).lines = s.lines := (releaseGroup_keeps g s).lines (by decide)
@[simp] theorem releaseGroup_capture (g : Fin 4) (s : State) :
    ((releaseGroup g s).2).capture = s.capture := (releaseGroup_keeps g s).capture (by decide)
@[simp] theorem releaseGroup_reactions (g : Fin 4) (s : State) :
    ((releaseGroup g s).2).reactions = s.reactions := (releaseGroup_keeps g s).reactions (by decide)
@[simp] theorem releaseGroup_batch (g : Fin 4) (s : State) :
    ((releaseGroup g s).2).batch = s.batch := (releaseGroup_keeps g s).batch (by decide)
@[simp] theorem releaseGroup_reports (g : Fin 4) (s : State) :
    ((releaseGroup g s).2).reports = s.reports := (releaseGroup_keeps g s).reports (by decide)
@[simp] theorem releaseGroup_port (g : Fin 4) (s : State) :
    ((releaseGroup g s).2).port = s.port := (releaseGroup_keeps g s).port (by decide)
@[simp] theorem releaseGroup_irq (g : Fin 4) (s : State) :
    ((releaseGroup g s).2).irq = s.irq := (releaseGroup_keeps g s).irq (by decide)
@[simp] theorem releaseGroup_pins (g : Fin 4) (s : State) :
    ((releaseGroup g s).2).pins = s.pins := (releaseGroup_keeps g s).pins (by decide)
@[simp] theorem releaseGroup_dataOut (g : Fin 4) (s : State) :
    ((releaseGroup g s).2).dataOut = s.dataOut := (releaseGroup_keeps g s).dataOut (by decide)
@[simp] theorem releaseGroup_pending (g : Fin 4) (s : State) :
    ((releaseGroup g s).2).pending = s.pending := (releaseGroup_keeps g s).pending (by decide)

/-! ## Services -/

theorem withoutClaim_keeps (c : Claim) (s : State) :
    Keeps [.arbiter, .reactions] s (withoutClaim c s) := by
  cases c <;> first
    | exact Keeps.refl _ _ | exact (withArbiter_keeps _ _).mono | exact (withReactions_keeps _ _).mono

@[simp] theorem withoutClaim_timebase (c : Claim) (s : State) :
    (withoutClaim c s).timebase = s.timebase := (withoutClaim_keeps c s).timebase (by decide)
@[simp] theorem withoutClaim_agenda (c : Claim) (s : State) :
    (withoutClaim c s).agenda = s.agenda := (withoutClaim_keeps c s).agenda (by decide)
@[simp] theorem withoutClaim_lines (c : Claim) (s : State) :
    (withoutClaim c s).lines = s.lines := (withoutClaim_keeps c s).lines (by decide)
@[simp] theorem withoutClaim_groups (c : Claim) (s : State) :
    (withoutClaim c s).groups = s.groups := (withoutClaim_keeps c s).groups (by decide)
@[simp] theorem withoutClaim_capture (c : Claim) (s : State) :
    (withoutClaim c s).capture = s.capture := (withoutClaim_keeps c s).capture (by decide)
@[simp] theorem withoutClaim_batch (c : Claim) (s : State) :
    (withoutClaim c s).batch = s.batch := (withoutClaim_keeps c s).batch (by decide)
@[simp] theorem withoutClaim_reports (c : Claim) (s : State) :
    (withoutClaim c s).reports = s.reports := (withoutClaim_keeps c s).reports (by decide)
@[simp] theorem withoutClaim_port (c : Claim) (s : State) :
    (withoutClaim c s).port = s.port := (withoutClaim_keeps c s).port (by decide)
@[simp] theorem withoutClaim_irq (c : Claim) (s : State) :
    (withoutClaim c s).irq = s.irq := (withoutClaim_keeps c s).irq (by decide)
@[simp] theorem withoutClaim_pins (c : Claim) (s : State) :
    (withoutClaim c s).pins = s.pins := (withoutClaim_keeps c s).pins (by decide)
@[simp] theorem withoutClaim_dataOut (c : Claim) (s : State) :
    (withoutClaim c s).dataOut = s.dataOut := (withoutClaim_keeps c s).dataOut (by decide)
@[simp] theorem withoutClaim_pending (c : Claim) (s : State) :
    (withoutClaim c s).pending = s.pending := (withoutClaim_keeps c s).pending (by decide)

theorem granted_keeps (c : Claim) (s : State) : Keeps [.arbiter, .reactions] s (granted c s) := 
  (withoutClaim_keeps c s).andThen (serving_keeps _ _)

@[simp] theorem granted_timebase (c : Claim) (s : State) :
    (granted c s).timebase = s.timebase := (granted_keeps c s).timebase (by decide)
@[simp] theorem granted_agenda (c : Claim) (s : State) :
    (granted c s).agenda = s.agenda := (granted_keeps c s).agenda (by decide)
@[simp] theorem granted_lines (c : Claim) (s : State) :
    (granted c s).lines = s.lines := (granted_keeps c s).lines (by decide)
@[simp] theorem granted_groups (c : Claim) (s : State) :
    (granted c s).groups = s.groups := (granted_keeps c s).groups (by decide)
@[simp] theorem granted_capture (c : Claim) (s : State) :
    (granted c s).capture = s.capture := (granted_keeps c s).capture (by decide)
@[simp] theorem granted_batch (c : Claim) (s : State) :
    (granted c s).batch = s.batch := (granted_keeps c s).batch (by decide)
@[simp] theorem granted_reports (c : Claim) (s : State) :
    (granted c s).reports = s.reports := (granted_keeps c s).reports (by decide)
@[simp] theorem granted_port (c : Claim) (s : State) :
    (granted c s).port = s.port := (granted_keeps c s).port (by decide)
@[simp] theorem granted_irq (c : Claim) (s : State) :
    (granted c s).irq = s.irq := (granted_keeps c s).irq (by decide)
@[simp] theorem granted_pins (c : Claim) (s : State) :
    (granted c s).pins = s.pins := (granted_keeps c s).pins (by decide)
@[simp] theorem granted_dataOut (c : Claim) (s : State) :
    (granted c s).dataOut = s.dataOut := (granted_keeps c s).dataOut (by decide)
@[simp] theorem granted_pending (c : Claim) (s : State) :
    (granted c s).pending = s.pending := (granted_keeps c s).pending (by decide)

/-! ## Tasks of a service -/

theorem engineReset_keeps (s : State) :
    Keeps [.arbiter, .lines, .groups, .capture, .reactions, .batch, .reports, .irq] s (engineReset s) := by
  constructor <;> intro n <;> first | rfl | exact absurd (by simp) n

/-- A task of a service leaves the agenda, the timebase, the pins, the read data and the queue (R53). -/
theorem runTask_keeps (k : Task) (s : State) :
    Keeps [.arbiter, .lines, .groups, .capture, .reactions, .batch, .reports, .port, .irq] s
      (runTask k s).1 := by
  cases k <;> simp only [runTask]
  · exact (request_keeps _ _ s).mono
  · exact (offerReport_keeps _ s).mono
  · split
    · exact (withFlags_keeps _ s).mono
    · exact Keeps.refl _ _
  · exact (boundaryAct_keeps _ s).mono
  · exact (boundaryGone_keeps _ s).mono
  · exact (withGroup_keeps _ _ s).mono
  · exact (engineReset_keeps s).mono
  · exact (withBatch_keeps _ s).andThen (withFlags_keeps _ _)
  · constructor <;> intro n <;> first | rfl | exact absurd (by simp) n

@[simp] theorem runTask_timebase (k : Task) (s : State) :
    (runTask k s).1.timebase = s.timebase := (runTask_keeps k s).timebase (by decide)
@[simp] theorem runTask_agenda (k : Task) (s : State) :
    (runTask k s).1.agenda = s.agenda := (runTask_keeps k s).agenda (by decide)
@[simp] theorem runTask_pins (k : Task) (s : State) :
    (runTask k s).1.pins = s.pins := (runTask_keeps k s).pins (by decide)
@[simp] theorem runTask_dataOut (k : Task) (s : State) :
    (runTask k s).1.dataOut = s.dataOut := (runTask_keeps k s).dataOut (by decide)
@[simp] theorem runTask_pending (k : Task) (s : State) :
    (runTask k s).1.pending = s.pending := (runTask_keeps k s).pending (by decide)

/-- A task leaves the service under way, and the host claim (R53). -/
theorem runTask_activity (k : Task) (s : State) :
    (runTask k s).1.arbiter.activity = s.arbiter.activity ∧ (runTask k s).1.arbiter.host = s.arbiter.host := by
  cases k <;> simp only [runTask]
  case request l r x => rw [(request_keeps l r s).arbiter (by decide)]; exact ⟨rfl, rfl⟩
  case offer r => rw [(offerReport_keeps r s).arbiter (by decide)]; exact ⟨rfl, rfl⟩
  case allocated n => split <;> exact ⟨rfl, rfl⟩
  case acted h => unfold boundaryAct; split <;> exact ⟨rfl, rfl⟩
  case gone h => rw [(boundaryGone_keeps h s).arbiter (by decide)]; exact ⟨rfl, rfl⟩
  all_goals exact ⟨rfl, rfl⟩

/-- What every task keeps, tasks in order keep (R53). -/
theorem runTasks_keeps (ks : List Task) (s : State) :
    Keeps [.arbiter, .lines, .groups, .capture, .reactions, .batch, .reports, .port, .irq] s
      (runTasks ks s) := by
  induction ks generalizing s with
  | nil => exact Keeps.refl _ _
  | cons k ks ih =>
    exact ((runTask_keeps k s).andThen (Keeps.foldl (fun t m => runTask_keeps m t) _ _)
      (fun _ m => m) (fun _ m => m)).andThen (ih _) (fun _ m => m) (fun _ m => m)

@[simp] theorem runTasks_timebase (ks : List Task) (s : State) :
    (runTasks ks s).timebase = s.timebase := (runTasks_keeps ks s).timebase (by decide)
@[simp] theorem runTasks_agenda (ks : List Task) (s : State) :
    (runTasks ks s).agenda = s.agenda := (runTasks_keeps ks s).agenda (by decide)
@[simp] theorem runTasks_pins (ks : List Task) (s : State) :
    (runTasks ks s).pins = s.pins := (runTasks_keeps ks s).pins (by decide)
@[simp] theorem runTasks_dataOut (ks : List Task) (s : State) :
    (runTasks ks s).dataOut = s.dataOut := (runTasks_keeps ks s).dataOut (by decide)
@[simp] theorem runTasks_pending (ks : List Task) (s : State) :
    (runTasks ks s).pending = s.pending := (runTasks_keeps ks s).pending (by decide)

end Sys2Proof.Machine
end

