-- ==== Sys2Proof/Laws/Agenda.lean ====
section
/-! SUPPORT. What the shared operations of the agenda can do, said once each: allocation, placement,
resolution, insertion, retiming, the edits of a batch, and the rows that are services. -/

namespace Sys2Proof.Machine

variable {s t : State} {a b : Agenda}

/-! ## The slot pool and the list -/

/-- Allocation finds no slot exactly when the free queue is empty (R19). -/
theorem allocate_eq_none : allocate a = none ↔ a.free = [] := by
  unfold allocate
  split <;> simp_all

/-- What an allocation does: the oldest free slot leaves, its generation advances, and nothing else changes
(R19, R20). -/
theorem allocate_cases {h : Handle} (k : allocate a = some (h, b)) : ∃ slot rest,
    a.free = slot :: rest ∧ h = { slot := slot, gen := a.gens[slot.toFin] + 1 } ∧
    b = { a with free := rest, gens := a.gens.set slot.toFin h.gen } := by
  unfold allocate at k
  split at k
  · cases k
  · rename_i slot rest e
    simp only [Option.some.injEq, Prod.mk.injEq] at k
    obtain ⟨rfl, rfl⟩ := k
    exact ⟨slot, rest, e, rfl, rfl⟩

/-- A placement adds the entry and nothing else (R24). -/
theorem placeIn_perm (e : Entry) (l : List Entry) : (placeIn e l).Perm (e :: l) := by
  induction l with
  | nil => exact List.Perm.refl _
  | cons x l ih =>
    unfold placeIn
    split
    · exact (ih.cons x).trans (List.Perm.swap e x l)
    · exact List.Perm.refl _

theorem mem_placeIn {e x : Entry} {l : List Entry} : x ∈ placeIn e l ↔ x = e ∨ x ∈ l := by
  rw [(placeIn_perm e l).mem_iff, List.mem_cons]

/-- A resolved entry stands in the list, in the handle's slot, and the handle's generation is the slot's
(R21). -/
theorem resolveIn_eq_pending {h : Handle} {e : Entry} (k : resolveIn h a = .pending e) :
    a.gens[h.slot.toFin] = h.gen ∧ e ∈ a.list ∧ e.handle.slot = h.slot := by
  unfold resolveIn at k
  split at k
  · cases k
  · rename_i g
    split at k
    · rename_i x f
      cases k
      exact ⟨by simpa using g, List.mem_of_find?_eq_some f, by simpa using List.find?_some f⟩
    · cases k

/-- Resolution reads the agenda alone. -/
theorem resolve_congr (h : Handle) (k : t.agenda = s.agenda) : resolve h t = resolve h s := by
  unfold resolve
  rw [k]

/-! ## Insertion, retiming and the edits of a batch -/

/-- An insertion is an allocation, and the placement or the act of the entry built (R37). -/
theorem insertEntry_cases {i : Insertion} {o : Origin} {x : Time} {h : Handle} {w : Work}
    (k : insertEntry i o x a = some (h, w)) : ∃ b, allocate a = some (h, b) ∧
      w = ((placeOrAct (buildEntry i o h) x b).1,
        .allocated b.free.length :: (placeOrAct (buildEntry i o h) x b).2) := by
  unfold insertEntry at k
  cases e : allocate a with
  | none => rw [e] at k; cases k
  | some p =>
    rw [e] at k
    simp only [Option.map_some, Option.some.injEq, Prod.mk.injEq] at k
    obtain ⟨rfl, rfl⟩ := k
    exact ⟨p.2, rfl, rfl⟩

/-- A retiming that is taken: the entry leaves its place and is placed again or acts (R44, R45). -/
theorem retimeEntry_cases {e : Entry} {d x : Time} {w : Work} (h : retimeEntry e d x a = .ok w) :
    inReturn e.job = false ∧ lateUnderDrop d e.late x = false ∧
    w = placeOrAct { e with due := d, anchor := d } x (takeOut e.handle.slot a) := by
  unfold retimeEntry at h
  split at h
  · cases h
  · rename_i n
    split at h
    · cases h
    · rename_i m
      cases h
      exact ⟨by simpa using n, by simpa using m, rfl⟩

/-- What a made edit did, by its kind (R151, R154). -/
theorem makeEdit_cases {x : Time} {c : Option BatchReason} {e : Edit} {h : Handle} {w : Work}
    (k : makeEdit x c e a = .ok (h, w)) :
    (∃ i, e = .insert i ∧ c = none ∧ lateUnderDrop i.due i.late x = false ∧
      insertEntry i .batch x a = some (h, w)) ∨
    (∃ z, e = .cancel h ∧ resolveIn h a = .pending z ∧ w = cancelEntry z x a) ∨
    (∃ z d, e = .retime h d ∧ resolveIn h a = .pending z ∧ retimeEntry z d x a = .ok w) := by
  unfold makeEdit at k
  split at k
  · rename_i i
    split at k
    · cases k
    · rename_i l
      split at k
      · cases k
      · split at k
        · rename_i y m
          cases k
          exact .inl ⟨i, rfl, rfl, by simpa using l, m⟩
        · cases k
  · split at k
    · cases k
    · cases k
    · rename_i z m
      cases k
      exact .inr (.inl ⟨z, rfl, m, rfl⟩)
  · rename_i d
    split at k
    · cases k
    · cases k
    · rename_i z m
      cases r : retimeEntry z d x a with
      | error y => rw [r] at k; cases k
      | ok u =>
        rw [r] at k
        cases k
        exact .inr (.inr ⟨z, d, rfl, m, r⟩)

/-- What every made edit keeps of the agenda, a batch that is applied keeps (R154). -/
theorem makeEdits_inv {P : Agenda → Prop} {x : Time}
    (step : ∀ a c e h w, P a → makeEdit x c e a = .ok (h, w) → P w.1)
    {c : Option BatchReason} {es : List Edit} {k : Nat} {hs : List Handle} {w : Work} (p : P a)
    (m : makeEdits x c es k a = .ok (hs, w)) : P w.1 := by
  induction es generalizing c k hs a w with
  | nil => cases m; exact p
  | cons e es ih =>
    unfold makeEdits at m
    split at m
    · cases m
    · rename_i y z n
      split at m
      · cases m
      · rename_i n'
        cases m
        have q := ih (step _ _ _ _ _ p n) n'
        exact q

/-- What every made edit's tasks are, so are those of a batch that is applied (R154). -/
theorem makeEdits_tasks {P : Task → Prop} {x : Time}
    (step : ∀ a c e h w, makeEdit x c e a = .ok (h, w) → ∀ k ∈ w.2, P k)
    {c : Option BatchReason} {es : List Edit} {k : Nat} {hs : List Handle} {w : Work}
    (m : makeEdits x c es k a = .ok (hs, w)) : ∀ k ∈ w.2, P k := by
  induction es generalizing c k hs a w with
  | nil => cases m; intro k h; cases h
  | cons e es ih =>
    unfold makeEdits at m
    split at m
    · cases m
    · rename_i y z n
      split at m
      · cases m
      · rename_i n'
        cases m
        intro q hq
        rcases List.mem_append.mp hq with h | h
        · exact step _ _ _ _ _ n q h
        · have r := ih n'
          exact r q h

/-! ## The tasks of the agenda's work -/

theorem recordOf_task (e : Entry) (k : ReportKind) (f : Bool) (d x : Time) :
    ∀ q ∈ ((recordOf e k f d x).map Task.offer).toList, agendaTask q := by
  intro q h
  cases r : recordOf e k f d x <;> simp_all [agendaTask]

/-- What is asked and told when an act is settled is the agenda's (R31 to R35). -/
theorem settle_tasks {e : Entry} {ask : Option Report → List Task} {c : Bool} {d x : Time}
    (k : ∀ r, ∀ q ∈ ask r, agendaTask q) : ∀ q ∈ (settle e ask c d x a).2, agendaTask q := by
  have g : ∀ h, ∀ q ∈ departure h c, agendaTask q := by
    intro h q m
    cases c <;> simp_all [departure, agendaTask]
  unfold settle
  split
  · exact k _
  · intro q m
    rcases List.mem_append.mp m with m | m
    · exact k _ q m
    · exact g _ q m
  · intro q m
    rcases List.mem_append.mp m with m | m
    · rcases List.mem_append.mp m with m | m
      · exact k _ q m
      · exact recordOf_task _ _ _ _ _ q m
    · exact g _ q m

theorem askLine_task (l : Fin 16) (r : Request) (x : Option Report) : ∀ q ∈ askLine l r x, agendaTask q := by
  simp [askLine, agendaTask]

theorem askNothing_task (x : Option Report) : ∀ q ∈ askNothing x, agendaTask q := by
  cases x <;> simp [askNothing, agendaTask]

/-- What an act and what follows it ask and tell is the agenda's (R27 to R35). -/
theorem act_tasks (e : Entry) (x : Time) (a : Agenda) : ∀ q ∈ (act e x a).2, agendaTask q := by
  have n : ∀ h (w : Work), (∀ q ∈ w.2, agendaTask q) → ∀ q ∈ (countedAct h w).2, agendaTask q := by
    intro h w k q m
    rcases List.mem_append.mp m with m | m
    · exact k q m
    · simp_all [agendaTask]
  unfold act
  split
  · exact n _ _ (settle_tasks (askLine_task _ _))
  · exact n _ _ (settle_tasks askNothing_task)
  · refine n _ _ ?_
    unfold assertAct
    dsimp only
    split
    · intro q m
      rcases List.mem_append.mp m with m | m
      · exact askLine_task _ _ _ q m
      · exact settle_tasks (askLine_task _ _) q m
    · exact askLine_task _ _ _
  · exact settle_tasks (askLine_task _ _)

theorem placeOrAct_tasks (e : Entry) (x : Time) (a : Agenda) : ∀ q ∈ (placeOrAct e x a).2, agendaTask q := by
  unfold placeOrAct
  split
  · exact act_tasks e x a
  · intro q h; cases h

theorem removalTasks_task (k : ReportKind) (x : Time) (e : Entry) : ∀ q ∈ removalTasks k x e, agendaTask q := by
  intro q m
  rcases List.mem_append.mp m with m | m
  · rcases List.mem_append.mp m with m | m
    · unfold closePulse at m
      split at m <;> simp_all [agendaTask]
    · exact recordOf_task _ _ _ _ _ q m
  · simp_all [agendaTask]

theorem insertEntry_tasks {i : Insertion} {o : Origin} {x : Time} {h : Handle} {w : Work}
    (k : insertEntry i o x a = some (h, w)) : ∀ q ∈ w.2, agendaTask q := by
  obtain ⟨b, -, rfl⟩ := insertEntry_cases k
  intro q m
  rcases List.mem_cons.mp m with rfl | m
  · trivial
  · exact placeOrAct_tasks _ _ _ q m

theorem insertReaction_tasks (i : Insertion) (r : Fin 16) (x : Time) (a : Agenda) :
    ∀ q ∈ (insertReaction i r x a).2, agendaTask q := by
  unfold insertReaction
  split
  · simp [agendaTask]
  · intro q m
    dsimp only at m
    rcases List.mem_cons.mp m with rfl | m
    · trivial
    · split at m
      · rcases List.mem_append.mp m with m | m
        · exact recordOf_task _ _ _ _ _ q m
        · simp_all [agendaTask]
      · exact placeOrAct_tasks _ _ _ q m

theorem removeWhere_tasks (p : Entry → Bool) (k : ReportKind) (x : Time) (a : Agenda) :
    ∀ q ∈ (removeWhere p k x a).2.2, agendaTask q := by
  intro q m
  obtain ⟨e, -, m⟩ := List.mem_flatMap.mp m
  exact removalTasks_task k x e q m

theorem makeEdit_tasks {x : Time} {c : Option BatchReason} {e : Edit} {h : Handle} {w : Work}
    (k : makeEdit x c e a = .ok (h, w)) : ∀ q ∈ w.2, agendaTask q := by
  obtain ⟨i, -, -, -, k⟩ | ⟨z, -, -, rfl⟩ | ⟨z, d, -, -, k⟩ := makeEdit_cases k
  · exact insertEntry_tasks k
  · exact removalTasks_task _ _ _
  · obtain ⟨-, -, rfl⟩ := retimeEntry_cases k
    exact placeOrAct_tasks _ _ _

/-! ## Offers -/

/-- A record offered to the report queue joins it, or is lost and counted; nothing else changes (R165,
R166). -/
theorem offerReport_cases (r : Report) (s : State) :
    (s.reports.queue.length < 64 ∧
      offerReport r s = { s with reports := { s.reports with queue := s.reports.queue ++ [r] } }) ∨
    (64 ≤ s.reports.queue.length ∧
      offerReport r s = { s with
        reports := { s.reports with lost := min 255 (s.reports.lost + 1) }
        irq := { s.irq with flags := { s.irq.flags with rptLost := true } } }) := by
  unfold offerReport
  split
  · rename_i h; exact .inl ⟨h, rfl⟩
  · rename_i h; exact .inr ⟨not_lt.mp h, rfl⟩

/-- No record offered: the report queue and RPT_LOST stand. -/
theorem offered_nil (h : t.reports = s.reports) (k : t.irq.flags.rptLost = s.irq.flags.rptLost) :
    Offered [] s t := by
  constructor <;> simp_all

/-- One offer, as a statement says it (R165, R166). -/
theorem offerReport_offered (r : Report) (s : State) : Offered [r] s (offerReport r s) := by
  rcases offerReport_cases r s with ⟨h, e⟩ | ⟨h, e⟩ <;> rw [e]
  · have k : 1 ≤ 64 - s.reports.queue.length := by omega
    constructor <;> simp [List.take_of_length_le, k]
    omega
  · have k : 64 - s.reports.queue.length = 0 := by omega
    constructor <;> simp [k]

/-- Records offered one after the other are offered together (R33, R165, R166). -/
theorem Offered.append {u : State} {rs qs : List Report} (h : Offered rs s t) (k : Offered qs t u) :
    Offered (rs ++ qs) s u := by
  have len : t.reports.queue.length =
      s.reports.queue.length + min (64 - s.reports.queue.length) rs.length := by simp [h.queue]
  refine ⟨?_, fun l => ?_, ?_, k.threshold.trans h.threshold⟩
  · rw [k.queue, h.queue, List.append_assoc, List.take_append]
    simp only [← h.queue, len]
    congr 3
    omega
  · have a := h.lost l
    rw [k.lost (by omega), a, len, List.length_append]
    omega
  · rw [k.rptLost, h.rptLost, Bool.or_assoc, len, List.length_append]
    congr 1
    rw [← Bool.decide_or, decide_eq_decide]
    omega

/-- A record offered to the pending reaction FIFO joins it, or is lost and counted (R135, R136). -/
theorem offerReaction_cases (r : PendingReaction) (s : State) :
    (s.reactions.fifo.length < 8 ∧
      offerReaction r s = { s with reactions := { s.reactions with fifo := s.reactions.fifo ++ [r] } }) ∨
    (8 ≤ s.reactions.fifo.length ∧
      offerReaction r s = { s with
        reactions := { s.reactions with lost := min 255 (s.reactions.lost + 1) }
        irq := { s.irq with flags := { s.irq.flags with reactLost := true } } }) := by
  unfold offerReaction
  split
  · rename_i h; exact .inl ⟨h, rfl⟩
  · rename_i h; exact .inr ⟨not_lt.mp h, rfl⟩

/-- A capture offered takes the next sequence number, and joins the queue or is lost and counted (R116,
R117). -/
theorem offerCapture_cases (n : Fin 8) (e : Edge) (x : Time) (f : Bool) (s : State) :
    (s.capture.queue.length < 32 ∧ offerCapture n e x f s = { s with capture := { s.capture with
      seq := s.capture.seq + 1
      queue := (s.capture.queue ++
        [{ seq := s.capture.seq, line := n, edge := e, time := x, filtered := f }]) } }) ∨
    (32 ≤ s.capture.queue.length ∧ offerCapture n e x f s = { s with
      capture := { s.capture with
        seq := s.capture.seq + 1, lost := min 255 (s.capture.lost + 1) }
      irq := { s.irq with flags := { s.irq.flags with capLost := true } } }) := by
  unfold offerCapture
  dsimp only
  split
  · rename_i h; exact .inl ⟨h, rfl⟩
  · rename_i h; exact .inr ⟨not_lt.mp h, rfl⟩

/-! ## Claims and services -/

/-- A claim is granted only at an IDLE agenda with no held answer outstanding (R52, R176). -/
theorem nextClaim_idle {c : Claim} (h : nextClaim s = some c) :
    s.arbiter.activity = none ∧ s.port.held = none := by
  unfold nextClaim at h
  split at h
  · cases h
  · rename_i n
    simpa using n

/-- Tasks one behind the other. -/
theorem runTasks_append (ks ls : List Task) (s : State) :
    runTasks (ks ++ ls) s = runTasks ls (runTasks ks s) := by
  induction ks generalizing s with
  | nil => rfl
  | cons k ks ih => exact ih _

/-- What every task keeps, a list of tasks keeps (R53). -/
theorem runTasks_inv {P : State → Prop} (step : ∀ k s, P s → P (runTask k s).1) (ks : List Task)
    (p : P s) : P (runTasks ks s) := by
  have fold : ∀ (ms : List Task) u, P u → P (ms.foldl (fun v m => (runTask m v).1) u) := by
    intro ms
    induction ms with
    | nil => exact fun _ h => h
    | cons m ms ih => exact fun u h => ih _ (step m u h)
  induction ks generalizing s with
  | nil => exact p
  | cons k ks ih => exact ih (fold _ _ (step k s p))

/-- What a task brings behind it is at most one offer (R27, R53). -/
theorem runTask_more (k : Task) (s : State) : (runTask k s).2 = [] ∨ ∃ r, (runTask k s).2 = [.offer r] := by
  cases k with
  | request l q r => cases r <;> simp [runTask]
  | _ => exact .inl rfl

/-- What the next move of a service does: its next task, and its end where no other is left (R53). -/
theorem advance_cases (v : Service) (s : State) :
    (v.todo = [] ∧ advance v s = endService v s) ∨
    (∃ k ks, v.todo = k :: ks ∧ (runTask k s).2 ++ ks = [] ∧ advance v s = endService v (runTask k s).1) ∨
    (∃ k ks, v.todo = k :: ks ∧ (runTask k s).2 ++ ks ≠ [] ∧
      advance v s = serving { v with todo := (runTask k s).2 ++ ks } (runTask k s).1) := by
  unfold advance
  split
  · rename_i h; exact .inl ⟨h, rfl⟩
  · rename_i k ks h
    refine .inr ?_
    dsimp only
    split
    · rename_i n; exact .inl ⟨k, ks, h, n, rfl⟩
    · rename_i n; exact .inr ⟨k, ks, h, n, rfl⟩

/-- What a service row can do: nothing; the grant; the whole service; the next move of the service under
way; or its rest (log 2). -/
theorem serviceRow_cases (part : ServicePart) (c : Claim) (serves : Service → State → Bool) (s : State) :
    serviceRow part c serves s = s ∨
    (nextClaim s = some c ∧ serves (serviceFor c s) s = true ∧
      (serviceRow part c serves s = granted c s ∨
        serviceRow part c serves s = finish (serviceFor c s) (granted c s))) ∨
    (∃ v, s.arbiter.activity = some v ∧ v.claim = c ∧ serves v s = true ∧
      (serviceRow part c serves s = advance v s ∨ serviceRow part c serves s = finish v s)) := by
  unfold serviceRow grantable underWayStep
  cases part <;> dsimp only
  · split
    · rename_i h
      simp only [Bool.and_eq_true, decide_eq_true_eq] at h
      exact .inr (.inl ⟨h.1, h.2, .inr rfl⟩)
    · exact .inl rfl
  · split
    · rename_i h
      simp only [Bool.and_eq_true, decide_eq_true_eq] at h
      exact .inr (.inl ⟨h.1, h.2, .inl rfl⟩)
    · exact .inl rfl
  all_goals
    split
    · rename_i v hv
      split
      · rename_i h
        first
        | exact .inr (.inr ⟨v, hv, h.1, h.2, .inl rfl⟩)
        | exact .inr (.inr ⟨v, hv, h.1, h.2, .inr rfl⟩)
      · exact .inl rfl
    · exact .inl rfl

/-- What the arbiter's move of a clock period is: the next move of the service, then at an IDLE agenda the
held answer and the grant (R52, R148). -/
theorem arbiterMove_eq (s : State) : arbiterMove s = grantNext (answerAtEnd
    (match s.arbiter.activity with | some v => advance v s | none => s)) := rfl

/-- The request a granted service begins with changes the lines and the moves still to make; nothing else
(R68). -/
theorem firstRequest_eq (s : State) : firstRequest s = s ∨
    ∃ v l r record ks, s.arbiter.activity = some v ∧ v.todo = .request l r record :: ks ∧
      firstRequest s = serving { v with todo := (runTask (.request l r record) s).2 ++ ks } (request l r s).2 := by
  unfold firstRequest
  split
  · rename_i v hv
    split
    · rename_i l r record ks ht
      exact .inr ⟨v, l, r, record, ks, hv, ht, rfl⟩
    · exact .inl rfl
  · exact .inl rfl

/-- The grant of a clock period: none, or the claim of highest rank with the request its service begins
with. -/
theorem grantNext_cases (s : State) : (nextClaim s = none ∧ grantNext s = s) ∨
    ∃ c, nextClaim s = some c ∧ grantNext s = firstRequest (granted c s) := by
  unfold grantNext
  split
  · exact .inr ⟨_, ‹_›, rfl⟩
  · exact .inl ⟨‹_›, rfl⟩

/-! ## Trip requests -/

/-- What a trip request does to the group records: nothing in OFF, a cause more in TRIPPED, a trip entry
in RUN (R91, R92, R93). -/
theorem tripRequest_groups (g : Fin 4) (c : Cause) (s : State) :
    (tripRequest g c s).groups = s.groups.set g (afterTripRequest c s.timebase.time s.groups[g]) := by
  unfold tripRequest afterTripRequest
  dsimp only
  cases e : s.groups[g].state
  · simp
  · simp only
    unfold tripEntry
    dsimp only
    split <;> simp [trippedGroup]
  · simp [withGroup]

/-- A trip request changes no line's intended level (R91: a deferred line stays INACTIVE). -/
theorem tripRequest_lines (g : Fin 4) (c : Cause) (s : State) :
    (tripRequest g c s).lines.lines = s.lines.lines := by
  unfold tripRequest tripEntry
  dsimp only
  split
  · split <;> rfl
  · rfl
  · rfl

end Sys2Proof.Machine
end

