-- ==== Sys2Proof/Laws/Pairs.lean ====
section
/-! SUPPORT. The two lines of a pair,
    and what each operation of the line unit does to PairInv: a change of
one line and its pair keeps it where the new pair is as R66 to R78 give it, and so do the requests, the
dropping of a deferral and the guard end. -/

namespace Sys2Proof.Machine

/-! ## Lines and their pairs -/

@[simp] theorem lineOn_pairOf_sideOf (l : Fin 16) : lineOn (pairOf l) (sideOf l) = l := by
  revert l; decide
@[simp] theorem pairOf_lineOn (p : Fin 8) (x : Fin 2) : pairOf (lineOn p x) = p := by revert p x; decide
@[simp] theorem sideOf_lineOn (p : Fin 8) (x : Fin 2) : sideOf (lineOn p x) = x := by revert p x; decide
@[simp] theorem otherSide_otherSide (x : Fin 2) : otherSide (otherSide x) = x := by revert x; decide
@[simp] theorem pairOf_partnerOf (l : Fin 16) : pairOf (partnerOf l) = pairOf l := by simp [partnerOf]
@[simp] theorem sideOf_partnerOf (l : Fin 16) : sideOf (partnerOf l) =
    otherSide (sideOf l) := by simp [partnerOf]
theorem partnerOf_ne (l : Fin 16) : partnerOf l ≠ l := by revert l; decide
theorem side_cases (x y : Fin 2) : x = y ∨ x = otherSide y := by revert x y; decide
theorem otherSide_ne (x : Fin 2) : otherSide x ≠ x := by revert x; decide

/-! ## One pair -/

/-- A pair is as the rules give it whichever of its lines is named first. -/
theorem PairOk.symm {a b : Line} {p : Pair} {now : Time} (h : PairOk a b p now) : PairOk b a p now where
  guardRange := h.guardRange
  notBothActive i x := h.notBothActive i x.symm
  notBothSafe i x := h.notBothSafe i x.symm
  offIsIdle := h.offIsIdle
  guardQuiet w x := (h.guardQuiet w x).symm
  guardNear := h.guardNear
  deferralMatches := h.deferralMatches

theorem sideOf_cases (l : Fin 16) : sideOf l = 0 ∨ sideOf l = 1 := by revert l; decide

/-- PairInv at the pair of a line, seen from that line. -/
theorem PairInv.at {s : State} (h : PairInv s) (l : Fin 16) (p : Fin 8) (hp : pairOf l = p) :
    PairOk s.lines.lines[l] s.lines.lines[partnerOf l] s.lines.pairs[p] s.timebase.time := by
  subst hp
  have k := h (pairOf l)
  rcases sideOf_cases l with z | z
  · have e : lineOn (pairOf l) 0 = l := by rw [← z]; simp
    have e' : lineOn (pairOf l) 1 = partnerOf l := by unfold partnerOf; rw [z]; rfl
    simp only [e, e'] at k
    exact k
  · have e : lineOn (pairOf l) 1 = l := by rw [← z]; simp
    have e' : lineOn (pairOf l) 0 = partnerOf l := by unfold partnerOf; rw [z]; rfl
    simp only [e, e'] at k
    exact k.symm

/-- A change of one line and of its pair keeps PairInv where that pair is still as the rules give it. -/
theorem PairInv.update {s t : State} (h : PairInv s) (l : Fin 16) (r : Fin 8) (x : Line) (q : Pair)
    (hr : pairOf l = r)
    (hl : t.lines.lines = s.lines.lines.set l x) (hp : t.lines.pairs = s.lines.pairs.set r q)
    (ht : t.timebase.time = s.timebase.time)
    (ok : PairOk x s.lines.lines[partnerOf l] q s.timebase.time) : PairInv t := by
  subst hr
  intro p
  rw [hl, hp, ht]
  by_cases e : pairOf l = p
  · subst e
    have n : (l : Nat) ≠ partnerOf l := fun n => partnerOf_ne l (Fin.ext n.symm)
    rcases sideOf_cases l with z | z
    · have e : lineOn (pairOf l) 0 = l := by rw [← z]; simp
      have e' : lineOn (pairOf l) 1 = partnerOf l := by unfold partnerOf; rw [z]; rfl
      simp only [e, e']
      simpa [Fin.getElem_fin, Vector.getElem_set, n] using ok
    · have e : lineOn (pairOf l) 1 = l := by rw [← z]; simp
      have e' : lineOn (pairOf l) 0 = partnerOf l := by unfold partnerOf; rw [z]; rfl
      simp only [e, e']
      simpa [Fin.getElem_fin, Vector.getElem_set, n] using ok.symm
  · have n : ∀ x, (l : Nat) ≠ lineOn p x := fun x n => e (by rw [Fin.ext n]; simp)
    have m : (pairOf l : Nat) ≠ p := fun m => e (Fin.ext m)
    have k := h p
    simpa [Fin.getElem_fin, Vector.getElem_set, n, m] using k

/-- PairInv is about the lines, the pairs and TIME alone. -/
theorem PairInv.congr {s t : State} (h : PairInv s) (hl : t.lines = s.lines)
    (ht : t.timebase.time = s.timebase.time) : PairInv t := by
  intro p
  rw [hl, ht]
  exact h p

theorem deferredOn_iff (p : Pair) (x : Fin 2) : deferredOn p x = true ↔ ∃ d, p.deferral = some d ∧
    d.side = x := by
  unfold deferredOn
  cases h : p.deferral <;> simp

theorem deferral_none {p : Pair} {x : Fin 2} (h : deferredOn p x = false) (k :
    deferredOn p (otherSide x) = false) :
    p.deferral = none := by
  cases e : p.deferral with
  | none => rfl
  | some d =>
    rcases side_cases d.side x with z | z
    · exact absurd ((deferredOn_iff p x).2 ⟨d, e, z⟩) (by simp [h])
    · exact absurd ((deferredOn_iff p _).2 ⟨d, e, z⟩) (by simp [k])

/-! ## The operations of the line unit -/

/-- R72 keeps the pairs. -/
theorem pairInv_activate {s : State} (h : PairInv s) (l : Fin 16)
    (on : s.lines.pairs[pairOf l].interlock = true) : PairInv (activate l s).2 := by
  have k := h.at l _ rfl
  unfold activate
  dsimp only
  split
  · exact h
  · rename_i inactive
    split
    · exact h
    · rename_i nd
      split
      · exact h
      · rename_i np
        simp only [Bool.or_eq_true, not_or, Bool.not_eq_true] at np nd
        have dn := deferral_none nd np.2
        split
        · rename_i w hw
          split
          · rename_i side
            refine h.update l _ s.lines.lines[l] _ rfl (by simp) rfl rfl ?_
            refine { k with offIsIdle := ?_, deferralMatches := ?_ }
            · intro off; rw [on] at off; cases off
            · intro d hd
              simp only [Option.some.injEq] at hd
              subst hd
              simp only [hw, Option.some.injEq]
              rw [← side]
          · refine h.update l _ { s.lines.lines[l] with active := true } _ rfl (by simp) rfl rfl ?_
            refine { k with
                notBothActive := ?_, offIsIdle := ?_, guardQuiet := ?_
                guardNear := ?_, deferralMatches := ?_ }
            · intro _ b; exact absurd b.2 (by simpa using np.1)
            · intro off; rw [on] at off; cases off
            · intro w h; cases h
            · intro w h; cases h
            · intro d hd; simp only [dn] at hd; cases hd
        · rename_i hw
          refine h.update l _ { s.lines.lines[l] with active := true } s.lines.pairs[pairOf l] rfl (by simp) (by simp)
            rfl ?_
          refine { k with notBothActive := ?_, guardQuiet := ?_ }
          · intro _ b; exact absurd b.2 (by simpa using np.1)
          · intro w h; rw [hw] at h; cases h

/-- R73 keeps the pairs. -/
theorem pairInv_deactivate {s : State} (h : PairInv s) (l : Fin 16)
    (on : s.lines.pairs[pairOf l].interlock = true) : PairInv (deactivate l s) := by
  have k := h.at l _ rfl
  unfold deactivate
  dsimp only
  split
  · refine h.update l _ s.lines.lines[l] _ rfl (by simp) rfl rfl ?_
    refine { k with offIsIdle := ?_, deferralMatches := ?_ }
    · intro off; rw [on] at off; cases off
    · intro d hd; cases hd
  · rename_i nd
    split
    · rename_i active
      have idle : s.lines.pairs[pairOf l].running = none := by
        cases e : s.lines.pairs[pairOf l].running with
        | none => rfl
        | some w => exact absurd (k.guardQuiet w e).1 (by rw [active]; simp)
      have dn : s.lines.pairs[pairOf l].deferral = none := by
        cases e : s.lines.pairs[pairOf l].deferral with
        | none => rfl
        | some d => have := k.deferralMatches d e; rw [idle] at this; cases this
      split
      · refine h.update l _ { s.lines.lines[l] with active := false } s.lines.pairs[pairOf l] rfl (by simp) (by simp)
          rfl ?_
        refine { k with notBothActive := ?_, guardQuiet := ?_ }
        · intro _ b; cases b.1
        · intro w h; rw [idle] at h; cases h
      · rename_i gz
        refine h.update l _ { s.lines.lines[l] with active := false } _ rfl (by simp) rfl rfl ?_
        have partner : s.lines.lines[partnerOf l].active = false := by
          by_contra c
          exact k.notBothActive on ⟨active, by simpa using c⟩
        refine { k with
            notBothActive := ?_, offIsIdle := ?_, guardQuiet := ?_
            guardNear := ?_, deferralMatches := ?_ }
        · intro _ b; cases b.1
        · intro off; rw [on] at off; cases off
        · intro w h; exact ⟨rfl, partner⟩
        · intro w hw
          simp only [Option.some.injEq] at hw
          subst hw
          have g := k.guardRange
          simp only [ticks, Config.guardMax] at *
          have : s.timebase.time + BitVec.ofNat 32 s.lines.pairs[pairOf l].guardTicks -
              s.timebase.time = BitVec.ofNat 32 s.lines.pairs[pairOf l].guardTicks := by
            rw [BitVec.add_comm, BitVec.add_sub_cancel]
          rw [this, BitVec.toNat_ofNat]
          omega
        · intro d hd; simp only [dn] at hd; cases hd
    · exact h

/-- Every request keeps the pairs (R71 to R74). -/
theorem pairInv_request {s : State} (h : PairInv s) (l : Fin 16) (r : Request) :
    PairInv (request l r s).2 := by
  have k := h.at l _ rfl
  unfold request
  dsimp only
  split
  · rename_i on
    split
    · exact pairInv_activate h l on
    · exact pairInv_deactivate h l on
    · split
      · exact pairInv_deactivate h l on
      · exact pairInv_activate h l on
  · rename_i off
    have off : s.lines.pairs[pairOf l].interlock = false := by simpa using off
    have idle := k.offIsIdle off
    have go : ∀ a, PairInv (setActive l a s) := fun a => by
      refine h.update l _ { s.lines.lines[l] with active := a } s.lines.pairs[pairOf l] rfl (by simp) (by simp)
        rfl ?_
      refine { k with notBothActive := ?_, guardQuiet := ?_ }
      · intro on; rw [off] at on; cases on
      · intro w h; rw [idle.1] at h; cases h
    split <;> exact go _

/-- The dropping of a deferral keeps the pairs (R82). -/
theorem pairInv_dropDeferral {s : State} (h : PairInv s) (p : Fin 8) : PairInv (dropDeferral p s) := by
  have k := h.at (lineOn p 0) p (by simp)
  refine h.update (lineOn p 0) p s.lines.lines[lineOn p 0] { s.lines.pairs[p] with deferral := none } (by simp)
    (by simp) (by simp) rfl ?_
  refine { k with offIsIdle := fun off => ⟨(k.offIsIdle off).1, rfl⟩, deferralMatches := ?_ }
  intro d hd; cases hd

/-- A guard end keeps the pairs (R79). -/
theorem pairInv_guardEnd {s : State} (h : PairInv s) (p : Fin 8) : PairInv (guardEndIfReached p s) := by
  unfold guardEndIfReached
  split
  · rename_i w hw
    split
    · unfold endGuard
      dsimp only
      split
      · rename_i d hd
        have k := h.at (lineOn p d.side) p (by simp)
        have q := k.guardQuiet w hw
        refine h.update (lineOn p d.side) p { s.lines.lines[lineOn p d.side] with active := true }
          { s.lines.pairs[p] with running := none, deferral := none } (by simp) (by simp) (by simp)
              rfl ?_
        refine { k with
            notBothActive := ?_, offIsIdle := fun _ => ⟨rfl, rfl⟩
            guardQuiet := ?_, guardNear := ?_, deferralMatches := ?_ }
        · intro _ b; rw [q.2] at b; cases b.2
        · intro w h; cases h
        · intro w h; cases h
        · intro w h; cases h
      · rename_i hd
        have k := h.at (lineOn p 0) p (by simp)
        refine h.update (lineOn p 0) p s.lines.lines[lineOn p 0]
          { s.lines.pairs[p] with running := none } (by simp)
            (by simp) (by simp) rfl ?_
        refine { k with
            offIsIdle := fun off => ⟨rfl, (k.offIsIdle off).2⟩, guardQuiet := ?_
            guardNear := ?_, deferralMatches := ?_ }
        · intro w h; cases h
        · intro w h; cases h
        · intro w h; simp only [hd] at h; cases h
    · exact h
  · exact h

/-- What every step of a fold keeps, the fold keeps. -/
theorem foldl_inv {σ α : Type} {P : σ → Prop} {f : σ → α → σ} (h : ∀ s a, P s → P (f s a)) (l :
    List α) (s : σ)
    (hs : P s) : P (l.foldl f s) := by
  induction l generalizing s with
  | nil => exact hs
  | cons a l ih => exact ih _ (h s a hs)

/-- The guard ends of a tick keep the pairs. -/
theorem pairInv_endReachedGuards {s : State} (h : PairInv s) : PairInv (endReachedGuards s) := by
  unfold endReachedGuards
  exact foldl_inv (P := PairInv) (fun _ p k => pairInv_guardEnd k p) _ s h

end Sys2Proof.Machine
end

