-- ==== Sys2Proof/Tests/Slice0.lean ====
section
/-! SUPPORT. Tests. The first part checks the model against numbers the spec writes out, one step each;
the comments name the worked example or the rule they come from. The second part shows, for each statement
with hypotheses, a state and operands that meet them. -/

-- One test after another: each kernel evaluation in parallel holds a thread's stack.
set_option Elab.async false

namespace Sys2Proof.Machine.Tests

/-! ## Small states -/

/-- The state an outcome gives. -/
def after (o : Host.Outcome State Fault Refusal) (s : State) : State :=
  match o with
  | .next t => t
  | .fault _ => s
  | .refused _ => s

/-- The state after a command. -/
def run (c : Instr) (s : State) : State := after (exec c s) s

/-- Device reset with the trip pins high. -/
def base : State := { State.reset with pins := { State.reset.pins with trip := Vector.replicate 2 true } }

/-- TIME at this value, the timebase running. -/
def atTime (t : Nat) (s : State) : State :=
  { s with timebase := { s.timebase with time := BitVec.ofNat 32 t, running := true } }

/-- Groups 0 and 1 RUN, lines 0 to 7 DRIVE. -/
def runGroups (s : State) : State :=
  { s with
    groups := Vector.ofFn fun g : Fin 4 =>
      if g.val < 2 then { s.groups[g] with state := .run } else s.groups[g]
    lines := { s.lines with lines := Vector.ofFn fun l : Fin 16 =>
      if l.val < 8 then { s.lines.lines[l] with mode := .drive } else s.lines.lines[l] } }

/-- An entry in a slot, with generation 1, one-shot, FIRE, origin HOST, tag 1. -/
def entry (slot due : Nat) (job : Job) (option : ReportOption) : Entry where
  handle := { slot := BitVec.ofNat 8 slot, gen := 1 }
  due := BitVec.ofNat 32 due
  anchor := BitVec.ofNat 32 due
  job := job
  repetition := .oneShot
  late := .fire
  option := option
  tag := 1
  origin := .host
  missed := 0

/-- These entries pending, in the slots 0 and up. -/
def holding (l : List Entry) (s : State) : State :=
  { s with agenda := { s.agenda with
    list := l
    free := allSlots.drop l.length
    gens := Vector.ofFn fun i : Fin 256 => if i.val < l.length then 1 else 0 } }

/-- A host command waiting at the arbiter, with these parameters. -/
def claiming (code : Word) (params : Vector Word 8) (s : State) : State :=
  { s with
    port := { s.port with waiting := true, cmd := code, params := params, result := .none }
    arbiter := { s.arbiter with host := true } }

/-- The parameters of a READY port. -/
def withParams (params : Vector Word 8) (s : State) : State :=
  { s with port := { s.port with params := params } }

/-- One pair replaced. -/
def withPair (p : Fin 8) (x : Pair) (s : State) : State :=
  { s with lines := { s.lines with pairs := s.lines.pairs.set p x } }

/-- One line ACTIVE. -/
def lineActive (l : Fin 16) (s : State) : State :=
  { s with lines := { s.lines with
    lines := s.lines.lines.set l { s.lines.lines[l] with active := true } } }

/-- One group replaced. -/
def withGroupAs (g : Fin 4) (x : Group) (s : State) : State := { s with groups := s.groups.set g x }

/-- Pair 0 interlocked with guard 10, off-line 0, end time 210 (chapter Output Lines, worked example). -/
def guardPair : Pair where
  interlock := true
  guardTicks := 10
  running := some { side := 0, endTime := 210 }
  deferral := none

/-- The same with line 1 deferred. -/
def deferPair : Pair := { guardPair with deferral := some { side := 1, endTime := 210 } }

/-- Entry B of the agenda's first worked example, at its first repetition. -/
def entryB : Entry := { entry 0 1100 (.pulse 5 20 .assertAct) .every with repetition := .counted 100 3 }

/-- Entry B in RETURN. -/
def entryBReturn : Entry := { entryB with due := 1120, job := .pulse 5 20 .returnAct }

/-- Input 2 of the filter's worked example, after its second high sample. -/
def inputTwo : Input where
  enable := true
  edge := .rise
  queued := true
  filter := 3
  settled := false
  candidate := true
  runCount := 2
  runStart := 702
  sampled := true

/-- One input replaced. -/
def withInput (n : Fin 8) (i : Input) (s : State) : State :=
  { s with capture := { s.capture with inputs := s.capture.inputs.set n i } }

/-- Row 2 of the reactions' worked example. -/
def rowTwo : Row where
  state := .armed
  input := 5
  edge := .rise
  kind := .schedule
  oneShot := false
  holdoff := 100
  lastMatch := none
  template := { line := 4, action := .pulse, delay := 50, width := 10, late := .fire, option := .every, tag := 7 }
  groupMask := 0

/-- One row replaced. -/
def withRowAs (k : Fin 16) (r : Row) (s : State) : State :=
  { s with reactions := { s.reactions with rows := s.reactions.rows.set k r } }

/-- A group in TRIPPED under PURGE whose purge waits. -/
def purgingGroup : Group :=
  { resetGroup with
    state := .tripped, use0 := .level, policy := .purge, causes := { noCauses with pin0 := true }
    firstCause := some .pin0, tripTime := 5000, purgePending := true }

/-- One purge claim waiting. -/
def purgeWaits (g : Fin 4) (s : State) : State :=
  { s with arbiter := { s.arbiter with purge := s.arbiter.purge.set g true } }

/-- A pending reaction record with the template of row 2. -/
def aRecord (row : Fin 16) (kind : PendingKind) (time : Nat) (tag : Word) : PendingReaction where
  row := row
  kind := kind
  time := BitVec.ofNat 32 time
  template := rowTwo.template
  tag := tag

/-- A pending reaction record at the head of the FIFO. -/
def withRecord (r : PendingReaction) (s : State) : State :=
  { s with reactions := { s.reactions with fifo := [r] } }

/-- A batch with these edits, in this state. -/
def withEdits (b : BatchState) (l : List Edit) (s : State) : State :=
  { s with batch := { s.batch with state := b, staging := l } }

/-- The apply claim waiting. -/
def applyWaits (s : State) : State := { s with arbiter := { s.arbiter with apply := true } }

/-- A service under way, with this left to do. -/
def serves (c : Claim) (todo : List Task) (s : State) : State :=
  { s with arbiter := { s.arbiter with
    activity := some
      { claim := c, taken := s.timebase.time, reserve := 0, record := none, after := s.agenda, todo := todo } } }

/-- A service under way with nothing left to do. -/
def underWay (c : Claim) (s : State) : State := serves c [] s

/-- The batch watches an entry. -/
def watching (h : Handle) (s : State) : State :=
  { s with batch := { s.batch with
    state := .armed, staging := [.cancel h], boundary := some (.entry h), watch := some h } }

/-- TCLK high, the next sample the second high one after two low ones; the timebase counts TCLK. -/
def atTclkEdge (s : State) : State :=
  { s with
    timebase := { s.timebase with source := .external }
    pins := { s.pins with tclk := true, tclkSamples := { before := 2, after := 1 } } }

/-- The report queue with this many records, each the same. -/
def withReports (n : Nat) (r : Report) (s : State) : State :=
  { s with reports := { s.reports with queue := List.replicate n r } }

/-- A record for the queues that need some. -/
def aCapture : Capture where
  seq := 0
  line := 0
  edge := .rise
  time := 0
  filtered := false

/-- The record of chapter Register Window, "decoding one report". -/
def aReport : Report where
  kind := .late
  final := true
  origin := .reaction 0
  handle := some { slot := 5, gen := 3 }
  tag := 7
  line := some 2
  due := 2001
  taken := 2002
  missed := 0

/-- P0..P7 of an INSERT: due 8000, line 3, ACTIVE, DROP, FINAL, tag 5 (chapter Commands, worked example). -/
def insertDrop : Vector Word 8 := #v[0x1F40, 0, 0, 0, 0, 0, 5, 0x0183]

/-- The same under FIRE. -/
def insertFire : Vector Word 8 := #v[0x1F40, 0, 0, 0, 0, 0, 5, 0x0103]

/-- What insertFire makes. -/
def insertion8000 : Insertion where
  due := 8000
  job := .drive 3 .active
  repetition := .oneShot
  late := .fire
  option := .final
  tag := 5

/-- insertFire passes the checks of R178, and makes it. -/
theorem insertFire_insertion : insertionOf insertFire = some insertion8000 := by decide

/-! ## Well-formedness: an ill-formed term for each check -/

theorem test_wellFormed_badCommand : wellFormed (.badCommand 0x01) = false := by decide
theorem test_wellFormed_badCommand_ok : wellFormed (.badCommand 0x07) = true := by decide
theorem test_wellFormed_rowFieldWrite : wellFormed (.rowFieldWrite 0 0x0001) = false := by decide
theorem test_wellFormed_registerWrite : wellFormed (.registerWrite 0x08 0x01) = false := by decide
theorem test_wellFormed_registerWrite_ok : wellFormed (.registerWrite 0x1B 0x04) = true := by decide

/-- The table gives no bits: no word spells a command. -/
theorem test_decode_none : decodeTableWord 16 0x1234 = none := rfl

/-! ## The timebase (chapter Time, worked examples) -/

theorem test_lead_across_wrap :
    lead 5 0xFFFFFFFA = 11 ∧ isLate 4294967280 0xFFFFFFFA = true ∧ isLate 2147483642 0xFFFFFFFA = true ∧
    slip 2 4294967294 = 4 := by decide
theorem test_tick_wraps : (run .tick (atTime 4294967295 base)).timebase.time = 0 := by decide
theorem test_tick_ends_guard_first :
    (run .tick (atTime 210 (withPair 0 deferPair base))).lines.lines[1].active = true := by decide
theorem test_sourceEvent_other_source :
    (run (.sourceEvent .external) (atTime 7 base)).timebase = (atTime 7 base).timebase := by decide
theorem test_start_phase :
    (run (.start .external 0x13) { base with timebase := { resetTimebase with phase := 5 } }).timebase =
      { resetTimebase with running := true, source := .external, prescaleField := 0x13 } := by decide
theorem test_stop_keeps_time : (run (.stop .internal 0) (atTime 77 base)).timebase.time = 77 := by decide
theorem test_tbConfig_bringUp : readWord (run (.tbConfig 0x0013) base) 0x01 = 0x0013 := by decide
theorem test_tbConfig_running_refused :
    (run (.tbConfig 0x8013) (atTime 0 base)).irq.reject =
      some { reason := .wrongState, address := 0x01 } := by decide
theorem test_timeHiWrite_waits :
    (run (.timeHiWrite 0x0012) base).timebase = { resetTimebase with writeHold := 0x0012 } := by decide
theorem test_timeLoWrite_commits :
    (run (.timeLoWrite 0x3400) (run (.timeHiWrite 0x0012) base)).timebase.time = 0x00123400 := by decide
theorem test_timeLoWrite_refused_pending :
    (run (.timeLoWrite 0x3400) (holding [entry 0 9 .mark .none] base)).irq.reject =
      some { reason := .wrongState, address := 0x02 } := by decide
theorem test_timeLoRead_carry :
    let t := run .timeLoRead (atTime 0x0001FFFF base)
    t.dataOut = 0xFFFF ∧ readWord (run .tick t) 0x03 = 0x0001 := by decide

/-! ## The agenda (chapter The Agenda and chapter Commands, worked examples) -/

theorem test_expiry_assert_moves_to_return :
    (run (.expiryService .whole) (atTime 1100 (runGroups (holding [entryB] base)))).agenda.list =
      [entryBReturn] := by decide +kernel
theorem test_expiry_return_repeats :
    (run (.expiryService .whole) (atTime 1120 (runGroups (holding [entryBReturn] base)))).agenda.list =
      [{ entryB with due := 1200, anchor := 1200, repetition := .counted 100 2 }] := by decide +kernel
theorem test_insert_accepted :
    (run .insert (withParams insertDrop base)).port.waiting = true := by decide
theorem test_insert_bad_option :
    (run .insert (withParams (insertDrop.set 7 0x0300) base)).port.result = .badParam := by decide
theorem test_insertService_handle :
    (run (.insertService .whole) (claiming 0x01 insertFire (atTime 7990 base))).port.res[0] = 0x0100 := by
  decide +kernel
theorem test_insertService_late_drop :
    (run (.insertService .whole) (claiming 0x01 insertDrop (atTime 8001 base))).port.result = .late := by
  decide +kernel
/-- "Worked example: a late periodic insertion under FIRE": due 4700, period 100, count 10 at 5000. -/
theorem test_insertService_late_periodic :
    let t := run (.insertService .whole)
      (claiming 0x01 #v[4700, 0, 100, 0, 0, 10, 9, 0x0222] (atTime 5000 (runGroups base)))
    t.agenda.list.map (fun e => (e.due, e.repetition, e.missed)) = [(5000, .counted 100 7, 0)] ∧
    t.reports.queue.map (fun r => (r.kind, r.due, r.missed)) = [(.late, 4700, 2)] := by decide +kernel
theorem test_cancel_waits : (run .cancel base).arbiter.host = true := by decide
theorem test_cancelService_closes_pulse :
    let t := run (.cancelService .whole)
      (claiming 0x02 #v[0x0100, 0, 0, 0, 0, 0, 0, 0]
        (atTime 1110 (lineActive 5 (runGroups (holding [entryBReturn] base)))))
    t.lines.lines[5].active = false ∧
    t.reports.queue.map (fun r => (r.kind, r.due, r.taken)) = [(.cancelled, 1120, 1110)] := by
  decide +kernel
theorem test_retime_waits : (run .retime base).port.cmd = 0x03 := by decide
theorem test_retimeService_in_return :
    (run (.retimeService .whole) (claiming 0x03 #v[0x0100, 1300, 0, 0, 0, 0, 0, 0]
      (atTime 1110 (runGroups (holding [entryBReturn] base))))).port.result = .wrongState := by
  decide +kernel
theorem test_cancelTag_waits : (run .cancelTag base).port.cmd = 0x04 := by decide
theorem test_cancelTagService_count :
    (run (.cancelTagService .whole) (claiming 0x04 #v[0, 0, 0, 0, 0, 0, 1, 0]
      (holding [entry 0 9 .mark .none, entry 1 9 .mark .none] base))).port.res[0] = 2 := by decide +kernel
theorem test_query_bad_part :
    (run .query (withParams #v[0, 2, 0, 0, 0, 0, 0, 0] base)).port.result = .badParam := by decide
theorem test_queryService_words :
    let t := run (.queryService .whole) (claiming 0x05 #v[0x0100, 0, 0, 0, 0, 0, 0, 0]
      (holding [{ entry 0 8010 (.drive 3 .active) .final with tag := 5 }] base))
    t.port.res = #v[0x0100, 0x1F4A, 0, 0x0103, 0, 0, 5, 0] := by decide +kernel
theorem test_head_waits : (run .head base).port.cmd = 0x06 := by decide
theorem test_headService_words :
    (run (.headService .whole) (claiming 0x06 (Vector.replicate 8 0)
      (holding [entry 0 0x10002 .mark .none] base))).port.res[2] = 1 := by decide +kernel
theorem test_engineReset_waits : (run .engineReset base).port.cmd = 0x3F := by decide
theorem test_engineResetService_keeps_time :
    let t := run (.engineResetService .whole) (claiming 0x3F (Vector.replicate 8 0)
      (atTime 0x3A10 (withPair 1 guardPair base)))
    t.timebase.time = 0x3A10 ∧ t.lines.pairs[1].running = none ∧ t.lines.pairs[1].guardTicks = 10 := by
  decide +kernel
theorem test_badCommand : (run (.badCommand 0x07) base).port.result = .badCommand := by decide

/-! ## Lines and groups (chapters Output Lines and Groups and Trips, worked examples) -/

/-- TIME 205: LINE_SET ACTIVE on line 0 is BLOCKED while line 1 is deferred. -/
theorem test_lineSet_blocked :
    (run .lineSet (withParams (Vector.replicate 8 0) (withPair 0 deferPair (atTime 205 base)))).port.result =
      .blocked := by decide
/-- TIME 215: TOGGLE on line 1, ACTIVE, starts its guard to 225. -/
theorem test_lineSet_toggle :
    (run .lineSet (withParams ((Vector.replicate 8 0).set 7 0x0021) (lineActive 1
      (withPair 0 { guardPair with running := none } (atTime 215 base))))).lines.pairs[0].running =
      some { side := 1, endTime := 225 } := by decide
theorem test_guardEnd_activates :
    let t := run (.guardEnd 0) (atTime 210 (withPair 0 deferPair base))
    t.lines.lines[1].active = true ∧ t.lines.pairs[0] = { guardPair with running := none } := by decide
theorem test_groupStart_asserted :
    let s := withParams (Vector.replicate 8 0) (withGroupAs 0 { resetGroup with use0 := .level } base)
    (run .groupStart (run (.tripPinFall 0) s)).port.result = .stillAsserted ∧
    (run .groupStart s).port.result = .ok := by decide
theorem test_groupStop :
    (run .groupStop (withParams (Vector.replicate 8 0) (runGroups base))).groups[0].state = .off := by decide
/-- TIME 5020: TRIP with mask 1 and 3, group 1 RUN and group 3 OFF. -/
theorem test_trip_mask :
    let t := run .trip (withParams ((Vector.replicate 8 0).set 0 0x000A) (runGroups base))
    t.groups[1].causes = { noCauses with host := true } ∧ t.groups[3].state = .off ∧
    t.groups[0].state = .run ∧ t.port.result = .ok := by decide
theorem test_release_purgePending :
    (run .release (withParams (Vector.replicate 8 0) (withGroupAs 0 purgingGroup base))).port.result =
      .purgePending := by decide
theorem test_tripPinFall_entry :
    let t := run (.tripPinFall 0) (atTime 5000 (withGroupAs 1
      { resetGroup with state := .run, use0 := .level, policy := .purge } base))
    t.groups[1] = { purgingGroup with tripTime := 5000 } ∧ t.arbiter.purge[1] = true ∧
    t.irq.flags.trip[1] = true := by decide
theorem test_tripPinRise : (run (.tripPinRise 1) State.reset).pins.trip[1] = true := by decide
theorem test_purge_count :
    let t := run (.purge 0 .whole) (purgeWaits 0 (withGroupAs 0 purgingGroup (holding
      [entry 0 9 (.drive 1 .active) .none, entry 1 9 .mark .none, entry 2 9 (.drive 4 .active) .none] base)))
    t.groups[0].lastPurgeCount = 1 ∧ t.groups[0].purgePending = false ∧ t.agenda.list.length = 2 := by
  decide +kernel
theorem test_lineCfgWrite_bringUp : readWord (run (.lineCfgWrite 0 0x0001) base) 0x20 = 0x0001 := by decide
theorem test_pairCfgWrite_bringUp : readWord (run (.pairCfgWrite 0 0x800A) base) 0x30 = 0x800A := by decide
theorem test_pairCfgWrite_guard_1024 :
    (run (.pairCfgWrite 0 0x8400) base).irq.reject = some { reason := .range, address := 0x30 } := by decide
theorem test_groupCfgWrite_bringUp : readWord (run (.groupCfgWrite 0 0x0011) base) 0x38 = 0x0011 := by decide
theorem test_statusViewSelect_tripTime :
    readWord (run (.statusViewSelect 1 2) (withGroupAs 1 purgingGroup base)) 0x3D = 0x1388 := by decide

/-! ## Inputs and reactions (chapters Input Lines and Reactions, worked examples) -/

theorem test_inCfgWrite_bringUp : readWord (run (.inCfgWrite 3 0x0039) base) 0x43 = 0x0039 := by decide
theorem test_filterIntWrite_zero :
    (run (.filterIntWrite 0) base).irq.reject = some { reason := .range, address := 0x48 } := by decide
/-- TIME 704: the third high sample of input 2; the record carries the time 702 and seq 17. -/
theorem test_filterSample_settles :
    let s := withInput 2 inputTwo (atTime 704 base)
    let t := run (.filterSample 0x04) { s with capture := { s.capture with seq := 17 } }
    t.capture.queue = [{ seq := 17, line := 2, edge := .rise, time := 702, filtered := true }] ∧
    readWord t 0x4B = 0x1211 := by decide +kernel
/-- An edge that finds the queue full is lost and counted, its number consumed. -/
theorem test_inputChange_overflow :
    let s := withInput 1 { inputTwo with filter := 0, edge := .both } base
    let t := run (.inputChange 1 true)
      { s with capture := { s.capture with seq := 32, queue := List.replicate 32 aCapture } }
    t.capture.lost = 1 ∧ t.capture.seq = 33 ∧ t.irq.flags.capLost = true ∧ t.capture.queue.length = 32 := by
  decide +kernel
theorem test_settledLevelFollowsPin :
    (run (.settledLevelFollowsPin 4 true) base).capture.inputs[4].settled = true := by decide
/-- TIME 1000: a rise on IN5 matches row 2; no record joins the capture queue with queueing off. -/
theorem test_inputChange_matches_row :
    let t := run (.inputChange 5 true) (atTime 1000 (withRowAs 2 rowTwo
      (withInput 5 { inputTwo with filter := 0, edge := .both, queued := false } base)))
    t.reactions.fifo = [aRecord 2 .schedule 1000 7] ∧
    t.reactions.rows[2].lastMatch = some 1000 ∧ t.capture.queue = [] := by decide +kernel
theorem test_reactionSchedule_due :
    (run (.reactionSchedule .whole) (atTime 1000
      (withRecord (aRecord 2 .schedule 1000 7) base))).agenda.list =
      [{ entry 0 1050 (.pulse 4 10 .assertAct) .every with tag := 7, origin := .reaction 2 }] := by
  decide +kernel
theorem test_reactionCancelTag :
    (run (.reactionCancelTag .whole) (withRecord (aRecord 3 .cancelTag 1040 1)
      (holding [entry 0 1050 (.pulse 4 10 .assertAct) .every] (atTime 1040 base)))).agenda.list = [] := by
  decide +kernel
theorem test_arm : (run .arm (withRowAs 0 { rowTwo with state := .off } base)).reactions.rows[0].state =
    .armed := by decide
theorem test_arm_pulse_zero : (run .arm (withRowAs 0
    { rowTwo with state := .off, template := { rowTwo.template with width := 0 } } base)).irq.reject =
      some { reason := .range, address := 0x61 } := by decide
theorem test_disarm : (run .disarm (withRowAs 0 { rowTwo with lastMatch := some 9 } base)).reactions.rows[0] =
    { rowTwo with state := .off } := by decide
theorem test_rearm_keeps_lastMatch :
    (run .rearm (withRowAs 0 { rowTwo with state := .spent, lastMatch := some 1040 } base)).reactions.rows[0] =
      { rowTwo with lastMatch := some 1040 } := by decide
/-- ROW2 0230h: line 0, PULSE, FIRE, EVERY (chapter Programming Sequences). -/
theorem test_rowFieldWrite_row2 :
    let r := (run (.rowFieldWrite 2 0x0230) base).reactions.rows[0]
    r.template.line = 0 ∧ r.template.action = .pulse ∧ r.template.late = .fire ∧
    r.template.option = .every := by decide
theorem test_reactStatWrite :
    (run .reactStatWrite { base with reactions := { resetReactions with lost := 9 } }).reactions.lost = 0 := by
  decide

/-! ## Batches (chapter Batches, worked example) -/

theorem test_batchInsert_stages :
    (run .batchInsert (withParams insertFire base)).batch.staging = [.insert insertion8000] := by decide
theorem test_batchCancel_stages :
    (run .batchCancel (withParams ((Vector.replicate 8 0).set 0 0x0101) base)).batch.staging =
      [.cancel { slot := 1, gen := 1 }] := by decide
theorem test_batchRetime_stages :
    (run .batchRetime (withParams #v[0x0102, 11700, 0, 0, 0, 0, 0, 0] base)).batch.staging =
      [.retime { slot := 2, gen := 1 } 11700] := by decide
theorem test_batchCommit_watches :
    (run .batchCommit (withParams #v[1, 0x0100, 0, 0, 0, 0, 0, 0]
      (withEdits .opened [.cancel { slot := 1, gen := 1 }] (holding [entry 0 11000 .mark .none] base)))).batch.watch =
      some { slot := 0, gen := 1 } := by decide +kernel
theorem test_commitEntryAnswer_stale :
    let s := withEdits .opened [.cancel { slot := 1, gen := 1 }] base
    (run .commitEntryAnswer { s with port := { s.port with
      waiting := true, held := some .commitEntry, cmd := 0x23, params := #v[1, 0x0100, 0, 0, 0, 0, 0, 0] } }).port.result =
      .stale := by decide
theorem test_batchDiscard_withdraws :
    (run .batchDiscard (applyWaits (withEdits .armed [.insert insertion8000] base))).arbiter.apply = false := by
  decide
theorem test_batchApply_handle :
    (run (.batchApply .whole) (applyWaits (withEdits .armed [.insert insertion8000] base))).batch.results =
      [{ outcome := .ok, disposition := some .pending, handle := some { slot := 0, gen := 1 } }] := by
  decide +kernel
theorem test_batchApply_fails_whole :
    let t := run (.batchApply .whole) (applyWaits (withEdits .armed
      [.insert insertion8000, .cancel { slot := 9, gen := 7 }] base))
    t.batch.state = .failed ∧ t.batch.failing = 1 ∧ t.batch.reason = some .stale ∧ t.agenda.list = [] := by
  decide +kernel
theorem test_heldBatchAnswer :
    let s := withEdits .applied [.insert insertion8000] base
    (run .heldBatchAnswer { s with port := { s.port with
      waiting := true, held := some .duringApply, cmd := 0x24 } }).port.result = .batchState := by decide

/-! ## Between two moves of a service (chapter Claims and Service Order, R52 and R53) -/

/-- A trip taken between the ASSERT and the late RETURN of one service: R27 gives each record's kind from
the group's state at its act. -/
theorem test_trip_between_two_requests :
    let s := atTime 1121 (runGroups (holding [{ entry 0 1100 (.pulse 5 20 .assertAct) .every with tag := 2 }]
      (withGroupAs 1 { resetGroup with use0 := .level } base)))
    let t := run (.expiryService .advance) (run (.expiryService .advance) (run (.expiryService .grant) s))
    (run (.expiryService .finish) (run (.tripPinFall 0) t)).reports.queue.map (fun r => (r.kind, r.final)) =
      [(.late, false), (.suppressed, true)] := by decide +kernel
/-- A LINE_SET between the two requests finds the line as the ASSERT left it. -/
theorem test_lineSet_between_two_requests :
    let s := withParams ((Vector.replicate 8 0).set 7 0x0001)
      (withPair 0 { guardPair with running := none } (atTime 1121 (runGroups (holding
        [entry 0 1100 (.pulse 0 20 .assertAct) .none] base))))
    let t := run (.expiryService .advance) (run (.expiryService .grant) s)
    (run .lineSet t).port.result = .blocked ∧
    (run .lineSet (run (.expiryService .finish) t)).port.result = .deferred := by decide +kernel
/-- A pop between two offers of one service at a full queue: the first is lost, the second kept (R166). -/
theorem test_pop_between_two_offers :
    let s := serves .reaction [.offer aReport, .offer { aReport with tag := 9 }] (withReports 64 aReport base)
    let t := run (.reactionCancelTag .advance) { s with arbiter := { s.arbiter with
      activity := s.arbiter.activity.map fun v =>
        { v with record := some (aRecord 0 .cancelTag 0 7) } } }
    let u := run (.reactionCancelTag .finish) (run .rptPop t)
    t.reports.lost = 1 ∧ u.reports.lost = 1 ∧ u.reports.queue.length = 64 ∧
    (u.reports.queue.getLast?).map Report.tag = some 9 := by decide +kernel
/-- A claim that waits alone at an IDLE agenda is granted in the next clock period (R52). -/
theorem test_clock_period_grants :
    let t := after (step (claiming 0x06 (Vector.replicate 8 0) base)) base
    t.arbiter.host = false ∧ (t.arbiter.activity.map Service.claim) = some .host ∧
    (after (step t) base).port.result = .notPending := by decide +kernel

/-- R68: an entry due at the next tick, with prescale 1, changes its line in the period of that tick. -/
theorem test_clock_period_acts_at_the_due_tick :
    let t := after (step (atTime 1099 (runGroups (holding [entryB] base)))) base
    (t.timebase.time, outPin t 5) = (1100, .high) := by decide +kernel

/-! ## Registers (chapters Commands, Reports and Register Window) -/

theorem test_parameterWrite_waiting :
    (run (.parameterWrite 0 0x1F4A) (claiming 0x01 insertDrop base)).irq.reject =
      some { reason := .cmdWaiting, address := 0x0A } := by decide
theorem test_capPop_empty :
    (run .capPop base).irq.reject = some { reason := .queueEmpty, address := 0x4E } := by decide
theorem test_capStatWrite :
    (run .capStatWrite { base with capture := { resetCapture with lost := 2 } }).capture.lost = 0 := by decide
theorem test_capThWrite_33 :
    (run (.capThWrite 33) base).irq.reject = some { reason := .range, address := 0x49 } := by decide
theorem test_rptHead_decoded :
    readWord { base with reports := { resetReports with queue := [aReport] } } 0x52 = 0x8172 := by decide
theorem test_rptPop :
    (run .rptPop { base with reports := { resetReports with queue := [aReport] } }).reports.queue = [] := by
  decide
theorem test_rptStatWrite :
    (run .rptStatWrite { base with reports := { resetReports with lost := 5 } }).reports.lost = 0 := by decide
theorem test_rptThWrite_64 : (run (.rptThWrite 64) base).reports.threshold = 64 := by decide
theorem test_flagsWrite_clears_ones :
    (run (.flagsWrite 0x0400) (run .capPop base)).irq.flags.busReject = false := by decide
theorem test_irqEnWrite_bringUp : readWord (run (.irqEnWrite 0x27C6) base) 0x05 = 0x27C6 := by decide
theorem test_registerWrite_partId :
    (run (.registerWrite 0x00 1) base).irq.reject = some { reason := .readOnly, address := 0x00 } := by decide
theorem test_deviceReset_clears :
    (run .deviceReset (atTime 77 (holding [entry 0 9 .mark .none] base))).timebase = resetTimebase := by decide

/-! ## Witnesses: the hypotheses of the statements are met -/

/-- One entry in slot 0: the slots are as R18 gives them. -/
theorem slotInv_one {s : State} (e : Entry) (h : e.handle = { slot := 0, gen := 1 })
    (k : s.agenda = (holding [e] base).agenda) (idle : s.arbiter.activity = none) : SlotInv s := by
  refine ⟨⟨?_, ?_⟩, fun v m => by rw [idle] at m; cases m⟩
  · have a : allSlots = 0 :: allSlots.drop 1 := rfl
    simp only [k, holding, List.length_singleton, List.map_cons, List.map_nil, h]
    refine List.perm_append_comm.trans ?_
    rw [List.singleton_append, ← a]
  · intro x m
    simp only [k, holding, List.mem_singleton] at m
    subst m
    simp [h, k, holding]

/-- At an IDLE agenda no host service and no batch apply is under way. -/
theorem idle_serves_none {s : State} (h : s.arbiter.activity = none) : ¬ hostServing s ∧ ¬ applying s :=
  ⟨fun ⟨_, k, _⟩ => (by rw [h] at k; cases k), fun ⟨_, k, _⟩ => (by rw [h] at k; cases k)⟩

/-- While an expiry service is under way no batch apply is. -/
theorem expiry_not_applying {s : State} : ¬ applying (underWay .expiry s) :=
  fun ⟨_, h, k⟩ => (by simp only [underWay, serves, Option.some.injEq] at h; subst h; cases k)

theorem slotsOk_reset : SlotsOk resetAgenda := by
  constructor
  · simp [resetAgenda]
  · intro x m
    simp [resetAgenda] at m

theorem slotInv_reset : SlotInv State.reset :=
  ⟨slotsOk_reset, fun _ m => (by simp [State.reset, resetArbiter] at m)⟩

/-- At an IDLE agenda nothing is left of a service. -/
theorem idle_todoOk {s : State} (h : s.arbiter.activity = none) : TodoOk s :=
  fun v k => (by rw [h] at k; cases k)

/-- The timebase STOPPED, RUNNING on each source, at the TCLK edge and away from it; a service with two
tasks left; an IDLE agenda with nothing held, before and after the period; a head that is due and one that is
late; a guard that ends; a sample moment with a filtered input and with none. -/
theorem witness_EmptyQueueStepIsOneClockPeriod :
    base.pending = [] ∧ base.timebase.running = false ∧
    (atTime 0 base).pending = [] ∧ (atTime 0 base).timebase.running = true ∧
    (atTime 0 base).timebase.source = .internal ∧
    (let s := atTclkEdge (atTime 0 base)
     s.timebase.running = true ∧ s.timebase.source = .external ∧ s.pins.tclk = true ∧
     2 ≤ s.pins.tclkSamples.before ∧ s.pins.tclkSamples.after = 1 ∧
     (after (step s) base).timebase.time = 1 ∧ (after (step (after (step s) base)) base).timebase.time = 1) ∧
    base.pins.tclk = false ∧ base.pins.tclkSamples.after = 0 ∧
    (∃ v, (serves .expiry [.offer aReport, .offer aReport] base).arbiter.activity = some v ∧
      2 ≤ v.todo.length) ∧
    base.arbiter.activity = none ∧ base.port.held = none ∧ (after (step base) base).arbiter.activity = none ∧
    (holding [entryB] base).agenda.list = [entryB] ∧ entryB.due = 1100 ∧ isLate entryB.due 1101 = true ∧
    (withPair 0 guardPair (atTime 209 base)).lines.pairs[0].running = some { side := 0, endTime := 210 } ∧
    base.capture.filterInt ≤ base.capture.samplePhase + 1 ∧
    isFiltered (withInput 2 inputTwo base).capture.inputs[2] = true ∧
    isFiltered base.capture.inputs[2] = false :=
  ⟨rfl, rfl, rfl, rfl, rfl, by decide +kernel, rfl, rfl, ⟨_, rfl, by decide⟩, rfl, rfl, by decide +kernel, rfl,
    rfl, by decide, rfl, by decide, by decide, by decide⟩

/-- Parameters at the edges of R16: the greatest period with the greatest width below it, and one beyond
each edge. -/
theorem witness_InsertionFieldsOfParameters :
    insertParamsOk #v[0, 0, 0xFFFF, 0x7FFF, 0xFFFF, 0xFFFF, 0, 0x0230] = true ∧
    insertParamsOk #v[0, 0, 2, 0, 1, 0, 0, 0x0030] = true ∧
    insertParamsOk #v[0, 0, 1, 0, 1, 0, 0, 0x0030] = false ∧
    insertParamsOk #v[0, 0, 0, 0x8000, 0, 0, 0, 0] = false ∧
    insertParamsOk #v[0, 0, 0, 0, 0, 1, 0, 0] = false ∧
    insertParamsOk #v[0, 0, 0, 0, 0, 0, 0, 0x0050] = false := by decide

theorem witness_RowFieldWrites :
    base.reactions.rows[base.reactions.sel].state = .off ∧
    rowValueOk 4 0x30FF = true ∧ rowValueOk 4 0x3100 = false ∧ rowValueOk 2 0x0240 = true ∧
    rowValueOk 2 0x0250 = false ∧ rowValueOk 1 0xFFFF = true ∧ rowValueOk 3 0xFFFF = true ∧
    rowValueOk 5 0xFFFF = true ∧ rowValueOk 6 0xFFFF = true ∧ rowValueOk 0 0x0340 = true ∧
    rowValueOk 0 0x0060 = false ∧
    (withRowAs 0 rowTwo base).reactions.rows[(withRowAs 0 rowTwo base).reactions.sel].state ≠ .off := by
  decide

theorem witness_RowControls :
    (withRowAs 0 { rowTwo with state := .off } base).reactions.rows[0].state = .off ∧
    armRefused rowTwo = false ∧
    armRefused { rowTwo with template := { rowTwo.template with width := 0 } } = true ∧
    armRefused { rowTwo with kind := .trip } = true ∧
    (withRowAs 0 rowTwo base).reactions.rows[0].state = .armed ∧
    (withRowAs 0 { rowTwo with state := .spent } base).reactions.rows[0].state = .spent := by decide

/-- A group OFF and RUN; values taken, and refused by each check, at its edge. -/
theorem witness_LineAndPairConfigWrites :
    base.groups[groupOf 0].state = .off ∧ (runGroups base).groups[groupOf 0].state ≠ .off ∧
    (0x000C : Word).toNat / 4 % 4 = 3 ∧ (0x000B : Word).toNat / 4 % 4 = 2 ∧
    (0x83FF : Word).toNat % 2048 = 1023 ∧ (0x0400 : Word).toNat % 2048 = 1024 ∧
    base.lines.pairs[0].interlock = false ∧ (0x800A : Word).getLsbD 15 = true ∧
    (lineActive 0 (lineActive 1 base)).lines.lines[lineOn 0 0].active = true ∧
    (lineActive 0 (lineActive 1 base)).lines.lines[lineOn 0 1].active = true := by decide

/-- A test of R202: the fields of the words 0001h in LINE_CFG, 0009h in GROUP_CFG and 0029h in IN_CFG. -/
theorem test_config_fields_in_their_bits :
    let x := (run (.lineCfgWrite 5 0x0001) base).lines.lines[5]
    let g := (run (.groupCfgWrite 2 0x0009) base).groups[2]
    let i := (run (.inCfgWrite 3 0x0029) base).capture.inputs[3]
    (x.mode, x.polarity, x.safe) = (.drive, .activeHigh, .inactive) ∧
    (g.use0, g.use1, g.policy) = (.level, .edge, .hold) ∧
    (i.enable, i.edge, i.queued, i.filter) = (true, .rise, true, 2) := by decide

/-- Filters at both edges of their range, an input enabled and one not. -/
theorem witness_GroupAndInputConfigWrites :
    base.groups[3].state = .off ∧ (runGroups base).groups[0].state ≠ .off ∧
    (0x0003 : Word).toNat % 4 = 3 ∧ (0x001A : Word).toNat % 4 = 2 ∧
    (0x0081 : Word).toNat / 16 % 16 = 8 ∧ (0x0091 : Word).toNat / 16 % 16 = 9 ∧
    (0x0011 : Word).toNat / 16 % 16 = 1 ∧ (0x0001 : Word).toNat / 16 % 16 = 0 ∧
    base.capture.inputs[0].enable = false ∧
    (withInput 2 inputTwo base).capture.inputs[2].enable = true := by decide

/-- The words at the edges of each clause: without a register, read-only, and neither. Every view of a group
record; the greatest purge count, staging and failing index; an edit with a result and one without. -/
theorem witness_RegisterMapReadsAndRefusals :
    (0x1E : BitVec 7) ∈ wordsWithoutRegister ∧ (0x7F : BitVec 7) ∈ wordsWithoutRegister ∧
    (0x00 : BitVec 7) ∈ readOnlyWords ∧ (0x7F : BitVec 7) ∉ readOnlyWords ∧
    (∀ v : Fin 4, (withGroupAs 2 { purgingGroup with view := v } base).groups[2].view = v) ∧
    readWord (withGroupAs 2 { purgingGroup with view := 1, lastPurgeCount := 256 } base) 0x3E = 256 ∧
    readWord (withGroupAs 2 purgingGroup base) 0x3E = 0x0912 ∧
    (List.replicate 16 (Edit.cancel entryB.handle)).length ≤ 16 ∧
    (let b : BatchUnit := { resetBatch with
      state := .applied, staging := [.insert insertion8000], results := [{ noResult with outcome := .ok }] }
     b.results[b.sel.val]? = some { noResult with outcome := .ok } ∧ b.results[(15 : Fin 16).val]? = none) := by
  decide

/-- A test of R68: the pins of lines 0 to 3 in RUN and TRIPPED, line 1 ACTIVE and ACTIVE_LOW, line 2 of safe
level FLOAT, line 3 of safe level ACTIVE. -/
theorem test_outPin_by_group_state :
    let s := lineActive 1 (runGroups base)
    let s : State := { s with lines := { s.lines with lines :=
      (((s.lines.lines.set 1 { s.lines.lines[1] with polarity := .activeLow }).set 2
        { s.lines.lines[2] with safe := .float }).set 3 { s.lines.lines[3] with safe := .active }) } }
    let t := withGroupAs 0 purgingGroup s
    [outPin s 0, outPin s 1, outPin s 2, outPin s 3] = [.low, .low, .low, .low] ∧
    [outPin t 0, outPin t 1, outPin t 2, outPin t 3] = [.low, .high, .floating, .high] ∧
    outPin s 8 = .floating := by decide

theorem witness_TimeReadSnapshot :
    (∃ t, exec .timeLoRead base = .next t) ∧ (∃ t, exec (.sourceEvent .internal) base = .next t) ∧
    (∃ t, exec .deviceReset base = .next t) := ⟨⟨_, rfl⟩, ⟨_, rfl⟩, ⟨_, rfl⟩⟩

theorem witness_IrqLineFollowsEnabledSources :
    (∃ t, exec .deviceReset base = .next t) ∧
    (∃ t, exec (.engineResetService .whole) base = .next t) ∧
    hostGranted 0x3F (claiming 0x3F (Vector.replicate 8 0) base) :=
  ⟨⟨_, rfl⟩, ⟨_, rfl⟩, by decide +kernel, rfl⟩

/-- Both ends of a span and of the horizon, and a late time. -/
theorem witness_TimesAreJudgedByLead :
    withinSpan 0 [0, 1, 2147483647] ∧ laterThan 2147483647 1 = true ∧ laterThan 1 0 = true ∧
    lead 1 0 = 1 ∧ lead 2147483647 0 = 2147483647 ∧ isLate 2147483648 0 = true := by
  refine ⟨?_, by decide, by decide, by decide, by decide, by decide⟩
  intro t m
  fin_cases m <;> decide

theorem witness_SourceEventsMakeTicks :
    (∀ (p : Fin 8) (w : PairWait), (atTime 9 base).lines.pairs[p].running = some w →
      w.endTime ≠ (atTime 9 base).timebase.time) ∧
    (atTime 9 base).timebase.running = true ∧
    (atTime 9 base).timebase.phase = (atTime 9 base).timebase.prescaleField.toNat ∧
    (.external : TickSource) ≠ (atTime 9 base).timebase.source ∧
    base.timebase.running = false ∧ (0 : Nat) < (0x13 : BitVec 8).toNat := by
  refine ⟨fun p w h => ?_, by decide, by decide, by decide, by decide, by decide⟩
  have : ∀ p : Fin 8, (atTime 9 base).lines.pairs[p].running = none := by decide
  rw [this] at h
  cases h

theorem witness_TimebaseControlWrites :
    base.timebase.running = false ∧ (atTime 9 base).timebase.running = true ∧
    (.internal : TickSource) = (atTime 9 base).timebase.source ∧
    (0 : BitVec 8) = (atTime 9 base).timebase.prescaleField ∧
    (1 : BitVec 8) ≠ (atTime 9 base).timebase.prescaleField := by decide

/-- A command that is neither of those named (TimeHighWriteHold, TimeReadSnapshot). -/
theorem witness_TimeHighWriteHold :
    (∃ t, exec .capPop base = .next t) ∧ (∀ v, Instr.capPop ≠ .timeHiWrite v) ∧
    (∀ v, Instr.capPop ≠ .registerWrite 0x03 v) ∧ Instr.capPop ≠ .deviceReset ∧
    Instr.capPop ≠ .timeLoRead := ⟨⟨_, rfl⟩, by simp, by simp, by simp, by simp⟩

/-- A TIME_LO write that is taken, with a guard running, and each reason for a refusal. -/
theorem witness_TimeLowWriteKeepsGuards :
    (withPair 0 deferPair base).timebase.running = false ∧
    (withPair 0 deferPair base).arbiter.activity = none ∧
    (withPair 0 deferPair base).agenda.list = [] ∧
    (atTime 0 base).timebase.running = true ∧ (underWay .host base).arbiter.activity ≠ none ∧
    (holding [entryB] base).agenda.list ≠ [] := by decide

theorem witness_PlacementOrder :
    withinSpan 1100 (1120 :: [entryB, entryBReturn].map Entry.due) ∧
    dueOrdered [entryB, entryBReturn] := by
  constructor
  · intro t m
    simp only [List.map_cons, List.map_nil, List.mem_cons, List.not_mem_nil, or_false] at m
    rcases m with rfl | rfl | rfl <;> decide
  · simp [dueOrdered, entryB, entryBReturn, entry, laterThan, Config.horizon]

/-- A handle of each kind: pending, free with its generation, and stale. -/
theorem witness_HandleResolution :
    SlotInv (holding [entryB] base) ∧ entryB ∈ (holding [entryB] base).agenda.list ∧
    entryB.handle = { slot := 0, gen := 1 } ∧
    resolve { slot := 1, gen := 0 } (holding [entryB] base) = .notPending ∧
    resolve { slot := 0, gen := 0 } (holding [entryB] base) = .stale :=
  ⟨slotInv_one _ rfl rfl rfl, by decide, rfl, by decide +kernel, by decide +kernel⟩

/-- A state with a guard and a deferral, a group whose purge waits, a host command waiting, and an ARMED
batch that watches the one pending entry. -/
def busy : State :=
  let s := holding [entryB] (withPair 0 deferPair (purgeWaits 3 (withGroupAs 3 purgingGroup base)))
  let s := withEdits .armed [.cancel { slot := 0, gen := 1 }] (claiming 0x01 insertFire s)
  { s with batch := { s.batch with
    boundary := some (.entry { slot := 0, gen := 1 }), watch := some { slot := 0, gen := 1 } } }

theorem witness_SlotsKeptByEveryStep : SlotInv busy := slotInv_one entryB rfl rfl rfl

theorem witness_EntriesKeptValidByEveryStep : EntryInv busy where
  entries := by
    intro e m
    have : e = entryB := by simpa [busy, holding, withEdits, claiming] using m
    subst this
    exact ⟨⟨by decide, by decide, fun _ => by decide⟩, ⟨by decide, by decide, by decide, by decide⟩, rfl,
      by decide⟩
  edits := by
    intro e m
    have : e = .cancel { slot := 0, gen := 1 } := by simpa [busy, withEdits] using m
    subst this
    trivial
  rows := by
    intro k h
    revert h k
    decide
  records := by intro r m; exact absurd m (by simp [busy, withEdits, claiming, holding, withPair,
    purgeWaits, withGroupAs, base, State.reset, resetReactions])
  served := by
    intro v h
    have : busy.arbiter.activity = none := rfl
    rw [this] at h
    cases h

theorem witness_PairsKeptByEveryStep : PairInv busy := by
  intro p
  refine ⟨?_, ?_, ?_, ?_, ?_, ?_, ?_⟩ <;> revert p <;> decide

/-- A line OFF; one in DRIVE in a group OFF, RUN and TRIPPED. -/
theorem witness_PairsKeptByEveryStep_pins :
    base.lines.lines[0].mode = .off ∧ base.groups[groupOf 0].state = .off ∧
    (runGroups base).lines.lines[0].mode = .drive ∧ (runGroups base).groups[groupOf 0].state = .run ∧
    (withGroupAs 0 purgingGroup (runGroups base)).groups[groupOf 0].state = .tripped := by decide

theorem witness_GroupsKeptByEveryStep : GroupInv busy := by
  refine ⟨idle_todoOk rfl, fun g => ?_⟩
  have idle : busy.arbiter.activity = none := rfl
  refine ⟨?_, ?_, ?_, ?_, ?_, ?_⟩
  · revert g; decide
  · revert g; decide
  · revert g; decide
  · revert g; decide
  · rintro ⟨v, h, -⟩; rw [idle] at h; cases h
  · intro h; left; revert g; decide

theorem witness_CapacitiesKeptByEveryStep : CapacityInv busy := by
  have h : ∀ n : Fin 8, filterOk busy.capture.inputs[n].filter = true ∧
      busy.capture.inputs[n].runCount ≤ busy.capture.inputs[n].filter ∧
      (busy.capture.inputs[n].enable = false → busy.capture.inputs[n].runCount = 0) := by decide
  constructor
  case inputs => exact h
  all_goals decide

/-- The counters of R203 and the registers of one number in their ranges; the greatest free queue. -/
theorem witness_RegisterMapReadsAndRefusals_counters : CapacityInv busy ∧
    base.agenda.free.length = 256 ∧ busy.agenda.list.length ≤ 256 :=
  ⟨witness_CapacitiesKeptByEveryStep, by decide +kernel, by decide⟩

/-- A staged INSERT of a PULSE in ASSERT is valid. -/
theorem witness_EntriesKeptValidByEveryStep_staged :
    editOk (.insert { insertion8000 with job := .pulse 3 20 .assertAct }) := by
  refine ⟨?_, ?_, rfl⟩ <;> simp [insertion8000, jobOk, repetitionOk, hasPeriod]

theorem witness_PortKeptByEveryStep : PortInv busy := by
  have idle : ¬ hostServing busy := (idle_serves_none rfl).1
  exact ⟨fun _ => .inl rfl, fun _ => ⟨rfl, by decide⟩, fun h => absurd h idle, fun h => absurd rfl h,
    fun _ => ⟨idle, rfl⟩, fun h => absurd h idle, fun _ => rfl, idle_todoOk rfl⟩

theorem witness_BatchKeptByEveryStep : BatchInv busy := by
  have idle : ¬ applying busy := (idle_serves_none rfl).2
  refine ⟨by decide, fun h => absurd h (by decide), fun h => absurd h idle, ?_, ?_, ?_, ?_, idle_todoOk rfl⟩
  · intro h w
    have : h = { slot := 0, gen := 1 } := by
      have : some ({ slot := 0, gen := 1 } : Handle) = some h := w
      simpa using this.symm
    subst this
    exact ⟨rfl, rfl, rfl, idle, by decide +kernel⟩
  · intro h v _ m
    have : busy.arbiter.activity = none := rfl
    rw [this] at m
    cases m
  · intro _; right; right; decide
  · intro h; exact absurd rfl h

/-- A TRIPPED group that a RELEASE makes RUN, and one that device reset makes OFF. -/
theorem witness_GroupLeavesTrippedOnlyByRelease :
    let s := withParams (Vector.replicate 8 0)
      (withGroupAs 0 { purgingGroup with purgePending := false } base)
    exec .release s = .next (run .release s) ∧ s.groups[0].state = .tripped ∧
    (run .release s).groups[0].state ≠ .tripped ∧
    exec .deviceReset s = .next (run .deviceReset s) ∧ (run .deviceReset s).groups[0].state ≠ .tripped ∧
    s.pending = [] ∧ ∃ t, step s = .next t :=
  ⟨rfl, by decide, by decide, rfl, by decide, rfl, _, rfl⟩

theorem witness_AgendaCommandsAccepted :
    base.port.waiting = false ∧ base.port.held = none ∧
    insertParamsOk insertDrop = true ∧ insertParamsOk (insertDrop.set 7 0x0300) = false ∧
    (withParams #v[0, 1, 0, 0, 0, 0, 0, 0] base).port.params[1].toNat ≤ 1 ∧
    2 ≤ (withParams #v[0, 2, 0, 0, 0, 0, 0, 0] base).port.params[1].toNat := by decide

theorem witness_PortRefusesWhileWaiting :
    (claiming 0x01 insertDrop base).port.waiting = true ∧ base.port.waiting = false ∧
    (0x07 : Word) ∉ commandCodes ∧ (0x40 : Word) ∉ commandCodes := by decide

/-- A grant; a service under way; and services whose next task is a request with a record, an offer at a
queue with room and one at a full queue, each with more to follow. -/
theorem witness_GrantThenFinishIsTheWholeService :
    (claiming 0x06 (Vector.replicate 8 0) base).arbiter.activity = none ∧
    (∃ t, exec (.headService .grant) (claiming 0x06 (Vector.replicate 8 0) base) = .next t ∧
      t.arbiter.activity ≠ none) ∧
    (underWay .expiry base).arbiter.activity ≠ none ∧
    (let s := serves .expiry [.request 5 .active (some aReport), .acted { slot := 0, gen := 1 }] base
     ∃ v, s.arbiter.activity = some v ∧
       v.todo = .request 5 .active (some aReport) :: [.acted { slot := 0, gen := 1 }] ∧
       exec (.expiryService .finish) s ≠ .next s) ∧
    (let s := serves .expiry [.offer aReport, .offer aReport] base
     s.reports.queue.length < 64 ∧ exec (.expiryService .finish) s ≠ .next s) ∧
    64 ≤ (withReports 64 aReport base).reports.queue.length := by
  have differ : ∀ {s t : State}, t.arbiter.activity = none → s.arbiter.activity ≠ none →
      (Host.Outcome.next t : Host.Outcome State Fault Refusal) ≠ .next s := by
    intro s t a b h
    cases h
    exact b a
  exact ⟨rfl, ⟨_, rfl, by decide +kernel⟩, by decide,
    ⟨_, rfl, rfl, differ rfl (by decide)⟩, ⟨by decide, differ rfl (by decide)⟩, by decide⟩

/-- A host INSERT granted: within the horizon, late under DROP, with no slot, and with RESERVE in the
way. -/
theorem witness_InsertServiceAnswers :
    hostGranted 0x01 (claiming 0x01 insertFire (atTime 7990 base)) ∧
    insertionOf insertFire = some insertion8000 ∧
    insertionOf insertDrop = some { insertion8000 with late := .drop } ∧
    isLate insertion8000.due 7990 = false ∧ isLate insertion8000.due 8001 = true ∧
    (∃ slot rest, base.agenda.free = slot :: rest ∧ base.agenda.reserve ≤ rest.length) ∧
    hostGranted 0x01 (claiming 0x01 insertFire
      { base with agenda := { resetAgenda with free := [] } }) ∧
    ([0] : List (BitVec 8)).length < 1 + 1 :=
  ⟨⟨by decide, rfl⟩, by decide, by decide, by decide, by decide, ⟨0, _, rfl, by decide +kernel⟩,
    ⟨by decide, rfl⟩, by decide⟩

theorem witness_LateInsertUnderFireActsAtOnce :
    let s := claiming 0x01 insertFire (atTime 8001 State.reset)
    SlotInv s ∧ hostGranted 0x01 s ∧ insertionOf s.port.params = some insertion8000 ∧
    isLate insertion8000.due s.timebase.time = true ∧ insertion8000.late = .fire ∧
    insertion8000.repetition = .oneShot ∧ (∀ l w p, insertion8000.job ≠ .pulse l w p) ∧
    s.agenda.free = 0 :: s.agenda.free.tail ∧ s.agenda.reserve ≤ s.agenda.free.tail.length ∧
    s.batch.watch ≠ some { slot := 0, gen := genOf s 0 + 1 } :=
  ⟨⟨slotsOk_reset, fun _ m => (by simp [claiming, atTime, State.reset, resetArbiter] at m)⟩,
    ⟨by decide, rfl⟩, by decide, by decide, rfl, rfl,
    by simp [insertion8000], rfl, by decide +kernel, by decide +kernel⟩

/-- A host command granted whose handle is pending (as a PULSE in RETURN and in ASSERT), free, and stale. -/
theorem witness_CancelServiceRemovesTheEntry :
    let s := claiming 0x02 #v[0x0100, 0, 0, 0, 0, 0, 0, 0] (holding [entryBReturn] (atTime 1110 base))
    hostGranted 0x02 s ∧ SlotInv s ∧ entryBReturn ∈ s.agenda.list ∧
    entryBReturn.handle = handleOfWord s.port.params[0] ∧
    resolve (handleOfWord 0x0001) s = .notPending ∧ resolve (handleOfWord 0x0200) s = .stale :=
  ⟨⟨by decide, rfl⟩, slotInv_one _ rfl rfl rfl, by decide, by decide, by decide +kernel, by decide +kernel⟩

theorem witness_CancelByTagRemovesEveryEntryOfTheTag :
    hostGranted 0x04 (claiming 0x04 #v[0, 0, 0, 0, 0, 0, 1, 0] (holding [entryB] base)) ∧
    nextClaim (withRecord (aRecord 3 .cancelTag 1040 1) base) = some .reaction ∧
    entryBReturn.tag = 1 ∧ inReturn entryBReturn.job = true ∧ entryB.tag = 1 ∧
    hostGranted 0x04 (claiming 0x04 #v[0, 0, 0, 0, 0, 0, 1, 0] (watching entryB.handle (holding [entryB] base))) :=
  ⟨⟨by decide, rfl⟩, by decide, rfl, rfl, rfl, by decide, rfl⟩

theorem witness_RetimeServiceMovesTheEntry :
    let s := claiming 0x03 #v[0x0100, 1300, 0, 0, 0, 0, 0, 0] (holding [entryB] (atTime 1000 base))
    hostGranted 0x03 s ∧ SlotInv s ∧ entryB ∈ s.agenda.list ∧
    entryB.handle = handleOfWord s.port.params[0] ∧ inReturn entryB.job = false ∧
    inReturn entryBReturn.job = true ∧ isLate 1300 1000 = false ∧ isLate 999 1000 = true :=
  ⟨⟨by decide, rfl⟩, slotInv_one _ rfl rfl rfl, by decide, by decide, rfl, rfl, by decide, by decide⟩

theorem witness_QueryAndHeadOnlyRead :
    hostGranted 0x06 (claiming 0x06 (Vector.replicate 8 0) base) ∧ base.agenda.list = [] ∧
    hostGranted 0x05 (claiming 0x05 #v[0x0100, 1, 0, 0, 0, 0, 0, 0] (holding [entryB] base)) ∧
    resolve (handleOfWord 0x0100) (holding [entryB] base) = .pending entryB :=
  ⟨⟨by decide, rfl⟩, rfl, ⟨by decide, rfl⟩, by decide +kernel⟩

theorem witness_EngineResetServiceResetsTheBlocks :
    hostGranted 0x3F (claiming 0x3F (Vector.replicate 8 0) (holding [entryB] base)) :=
  ⟨by decide, rfl⟩

/-- A purge that finds no entry of its group, and one that removes the watched PULSE. -/
theorem witness_PurgeRemovesTheGroupsEntries :
    nextClaim (purgeWaits 3 (holding [entryB] base)) = some (.purge 3) ∧
    nextClaim (purgeWaits 1 (watching entryB.handle (holding [entryB] base))) = some (.purge 1) ∧
    jobLine entryB.job = some 5 := by decide

/-- An entry that acts on time, and one that is late. -/
theorem witness_ExpiryOfOneShotActsAndEnds :
    let e := entry 0 1120 (.drive 6 .active) .final
    nextClaim (atTime 1120 (holding [e] base)) = some .expiry ∧
    nextClaim (atTime 1121 (holding [e] base)) = some .expiry ∧
    e.repetition = .oneShot ∧ (∀ l w p, e.job ≠ .pulse l w p) ∧ base.batch.watch ≠ some e.handle ∧
    (watching e.handle base).batch.watch = some e.handle ∧
    nextClaim (atTime 1120 (watching e.handle (holding [e] base))) = some .expiry :=
  ⟨by decide, by decide, rfl, by simp [entry], by decide, rfl, by decide⟩

/-- Endless and counted entries whose next repetition is in the future, due, and late; a counted one of
which repetitions are left after the skip, and one of which none is; a PULSE in RETURN. -/
theorem witness_ExpiryOfPeriodicRepeats :
    let e := { entry 0 7015 (.drive 9 .toggle) .every with repetition := .endless 5 }
    nextClaim (atTime 7027 (holding [e] base)) = some .expiry ∧ (∀ l w p, e.job ≠ .pulse l w p) ∧
    e.anchor = e.due ∧ e.missed ≤ 65535 ∧ isLate (e.anchor + ticks 5) 7027 = true ∧
    isLate (e.anchor + ticks 5) 7020 = false ∧ isLate (e.anchor + ticks 5) 7015 = false ∧
    nextClaim (atTime 7015 (holding [{ e with repetition := .counted 5 2, late := .drop }] base)) =
      some .expiry ∧
    nextClaim (atTime 7015 (holding [{ e with repetition := .counted 2147483647 1 }] base)) =
      some .expiry ∧
    (2 : Nat) ≤ 9 ∧ e.late = .fire ∧
    ((run (.expiryService .whole) (atTime 7027 (holding
      [{ e with repetition := .counted 5 9 }] base))).agenda.list.map Entry.repetition = [.counted 5 6]) ∧
    ((run (.expiryService .whole) (atTime 7027 (holding
      [{ e with repetition := .counted 5 3 }] base))).agenda.list = []) ∧
    (∀ l w, entryBReturn.job ≠ .pulse l w .assertAct) ∧
    nextClaim (atTime 1120 (holding [entryBReturn] base)) = some .expiry :=
  ⟨by decide, by simp [entry], rfl, by decide, by decide, by decide, by decide, by decide, by decide,
    by decide, rfl, by decide +kernel, by decide +kernel, by simp [entryBReturn], by decide⟩

/-- A RETURN after which the entry is placed again, and those that end it: of a one-shot, the last of a count,
and one whose next repetition is DROPPED. -/
theorem witness_ExpiryOfPeriodicRepeats_endings :
    let agenda : Nat → Repetition → LatePolicy → Agenda := fun now r late =>
      (run (.expiryService .whole)
        (atTime now (holding [{ entryBReturn with repetition := r, late := late }] base))).agenda
    let a : Agenda := { (holding [entryBReturn] base).agenda with list := [] }
    agenda 1120 (.counted 100 3) .fire ≠ ended entryBReturn a ∧
    agenda 1120 .oneShot .fire = ended entryBReturn a ∧
    agenda 1120 (.counted 100 1) .fire = ended entryBReturn a ∧
    agenda 1300 (.endless 100) .drop = ended entryBReturn a ∧ inReturn entryBReturn.job = true ∧
    inReturn (.drive 3 .active) = false :=
  ⟨fun h => absurd (congrArg (fun x => x.list.length) h) (by decide +kernel), rfl, rfl, rfl, rfl, rfl⟩

/-- Under FIRE, the third repetition of entry B is the first that is not late at 1300. -/
theorem test_expiry_of_late_pulse_skips :
    let t := run (.expiryService .whole) (atTime 1300 (runGroups (holding [{ entryB with option := .final }] base)))
    t.agenda.list.map (fun e => (e.due, e.job, e.repetition, e.missed)) =
      [(1300, .pulse 5 20 .assertAct, .counted 100 1, 1)] ∧ t.reports.queue = [] := by decide +kernel

/-- An ASSERT whose RETURN is in the future and one whose RETURN is late; a RETURN. -/
theorem witness_ExpiryOfPulseAssertsAndReturns :
    let e := entry 0 1100 (.pulse 5 20 .assertAct) .every
    nextClaim (atTime 1100 (holding [e] base)) = some .expiry ∧
    isLate (e.anchor + ticks 20) 1120 = false ∧ isLate (e.anchor + ticks 20) 1121 = true ∧
    nextClaim (atTime 1121 (holding [e] base)) = some .expiry ∧
    nextClaim (atTime 1120 (holding [{ e with due := 1120, job := .pulse 5 20 .returnAct }] base)) =
      some .expiry ∧
    nextClaim (atTime 1100 (watching e.handle (holding [e] base))) = some .expiry ∧
    nextClaim (atTime 1120 (watching e.handle (holding
      [{ e with due := 1120, job := .pulse 5 20 .returnAct }] base))) = some .expiry := by decide

theorem witness_ReactionScheduleInserts :
    let r := aRecord 2 .schedule 1000 7
    nextClaim (atTime 1000 (withRecord r base)) = some .reaction ∧
    nextClaim (atTime 1060 (withRecord r { base with agenda := { resetAgenda with free := [] } })) =
      some .reaction ∧
    isLate (1000 + 50) 1000 = false ∧ isLate (1000 + 50) 1060 = true ∧ r.template.late = .fire ∧
    (let d : PendingReaction := { r with template := { r.template with late := .drop } }
     nextClaim (atTime 1060 (withRecord d base)) = some .reaction ∧ d.template.option ≠ .none ∧
     ((run (.reactionSchedule .whole) (atTime 1060 (withRecord d base))).reports.queue.map fun x =>
       (x.kind, x.final, x.due, x.taken)) = [(.dropped, true, 1050, 1060)] ∧
     (run (.reactionSchedule .whole) (atTime 1060 (withRecord d (withReports 64 aReport base)))).reports.lost = 1) ∧
    (∃ slot rest, base.agenda.free = slot :: rest) :=
  ⟨by decide, by decide, by decide, by decide, rfl,
    ⟨by decide, by decide, by decide +kernel, by decide +kernel⟩, 0, _, rfl⟩

theorem witness_LineSetAnswers :
    base.port.waiting = false ∧ base.port.held = none ∧ (0x002F : Word).toNat / 16 % 8 = 2 ∧
    (0x003F : Word).toNat / 16 % 8 = 3 ∧ base.lines.pairs[pairOf 15].interlock = false := by decide

/-- Each case of R72 and R73: line 1 deferred, line 0 ACTIVE, the pair IDLE, and the guard of either
line. -/
theorem witness_InterlockedRequestTable :
    let deferred := withPair 0 deferPair base
    let guarded := withPair 0 guardPair base
    let idle := withPair 0 { guardPair with running := none } base
    let active := lineActive 0 idle
    deferred.lines.pairs[pairOf 1].interlock = true ∧
    deferredOn deferred.lines.pairs[pairOf 1] (sideOf 1) = true ∧
    deferredOn deferred.lines.pairs[pairOf 0] (otherSide (sideOf 0)) = true ∧
    guarded.lines.pairs[pairOf 1].running = some { side := otherSide (sideOf 1), endTime := 210 } ∧
    guarded.lines.pairs[pairOf 0].running = some { side := sideOf 0, endTime := 210 } ∧
    guarded.lines.lines[partnerOf 1].active = false ∧ idle.lines.pairs[pairOf 0].running = none ∧
    active.lines.lines[0].active = true ∧ active.lines.lines[partnerOf 1].active = true ∧
    1 ≤ active.lines.pairs[pairOf 0].guardTicks ∧
    (withPair 0 { guardPair with guardTicks := 0, running := none } base).lines.pairs[0].guardTicks = 0 ∧
    base.lines.pairs[pairOf 0].interlock = false := by
  decide

theorem witness_GuardEndActivatesTheDeferredLine :
    (atTime 210 (withPair 0 deferPair base)).lines.pairs[0].running =
      some { side := 0, endTime := (atTime 210 base).timebase.time } ∧
    deferPair.deferral = some { side := 1, endTime := 210 } ∧ guardPair.deferral = none ∧
    (210 : Time) ≠ (atTime 209 base).timebase.time := by decide

theorem witness_TripCommandTripsTheGroupsNamed :
    base.port.waiting = false ∧ base.port.held = none ∧ (0x000F : Word).toNat < 16 ∧
    16 ≤ (0x0010 : Word).toNat := by decide

/-- A group in each state; its LEVEL source asserted and not; the greatest group number and the next. -/
theorem witness_GroupCommandsAnswer :
    let s := withParams ((Vector.replicate 8 0).set 0 3) (withGroupAs 3 purgingGroup (runGroups base))
    s.port.waiting = false ∧ s.port.held = none ∧ s.port.params[0].toNat = (3 : Fin 4).val ∧
    s.groups[3].state = .tripped ∧ s.groups[3].purgePending = true ∧ s.groups[0].state = .run ∧
    s.groups[2].state = .off ∧ s.groups[3].use0 = .level ∧ s.pins.trip[0] = true ∧
    (run (.tripPinFall 0) s).pins.trip[0] = false ∧ 4 ≤ (4 : Word).toNat := by decide

theorem witness_TripPinsFallAndRise :
    base.pins.trip[0] = true ∧
    (∃ s : State, s.pins.trip[0] = false ∧ 2 ≤ s.pins.tripSamples[0].before ∧
      s.pins.tripSamples[0].after = 1) :=
  ⟨by decide, { base with pins := { base.pins with
    trip := Vector.replicate 2 false
    tripSamples := Vector.replicate 2 { before := 2, after := 1 } } }, by decide, by decide, by decide⟩

/-- A disabled input; an unfiltered one that keeps its level, changes unadmitted, and changes admitted,
with no row matching and with one, at a queue of 31 and of 32 records. -/
theorem witness_InputSamplesAreCaptured :
    let i := { inputTwo with filter := 0 }
    base.capture.inputs[2].enable = false ∧ i.enable = true ∧ i.filter = 0 ∧ i.settled = false ∧
    inputTwo.enable = true ∧ inputTwo.filter ≠ 0 ∧
    admits i.edge .rise = true ∧ admits { i with edge := .fall }.edge .rise = false ∧ i.queued = true ∧
    (∀ k : Fin 16, rowMatches base.reactions.rows[k] 2 .rise base.timebase.time = false) ∧
    rowMatches rowTwo 5 .rise base.timebase.time = true ∧
    (List.replicate 31 aCapture).length < 32 ∧ 32 ≤ (List.replicate 32 aCapture).length := by decide

/-- The sample that completes a run, and one that does not. -/
theorem witness_FilterRunsSettleTheInput :
    let s := withInput 2 inputTwo (atTime 704 base)
    s.capture.inputs[2].enable = true ∧ 2 ≤ s.capture.inputs[2].filter ∧ s.capture.inputs[2].filter ≤ 8 ∧
    s.capture.inputs[2].runCount ≤ s.capture.inputs[2].filter ∧
    (∀ m : Fin 8, m ≠ 2 → isFiltered s.capture.inputs[m] = false) ∧
    (0x04 : BitVec 8).getLsbD 2 = inputTwo.candidate ∧
    min inputTwo.filter (inputTwo.runCount + 1) = inputTwo.filter ∧
    (0x00 : BitVec 8).getLsbD 2 = inputTwo.settled ∧ inputTwo.queued = true ∧
    admits inputTwo.edge .rise = true ∧ s.capture.queue.length < 32 ∧
    admits { inputTwo with edge := .fall }.edge .rise = false ∧
    32 ≤ (List.replicate 32 aCapture).length ∧
    (∀ k : Fin 16, rowMatches s.reactions.rows[k] 2 .rise 702 = false) ∧
    rowMatches { rowTwo with input := 2 } 2 .rise 702 = true := by decide

/-- Inputs 2 and 3 settle at one sample moment, with room for one record: input 2's is kept (R113). -/
theorem test_filterSample_ascending :
    let s := withInput 3 inputTwo (withInput 2 inputTwo (atTime 704 base))
    let t := run (.filterSample 0x0C)
      { s with capture := { s.capture with seq := 17, queue := List.replicate 31 aCapture } }
    t.capture.queue.getLast? = some { seq := 17, line := 2, edge := .rise, time := 702, filtered := true } ∧
    t.capture.seq = 19 ∧ t.capture.lost = 1 ∧ t.capture.queue.length = 32 := by decide +kernel

/-- A TRIP row that matches, naming a group RUN under PURGE. -/
theorem witness_HandOffMatchesTheTable :
    let r : Row := { rowTwo with kind := .trip, groupMask := 2 }
    let s := withRowAs 2 r (withGroupAs 1 { resetGroup with state := .run, policy := .purge } base)
    rowMatches s.reactions.rows[2] 5 .rise 1000 = true ∧ r.groupMask.getLsbD 1 = true ∧
    s.reactions.lost ≤ 255 ∧ (handOff 5 .rise 1000 s).arbiter.purge[1] = true := by decide +kernel

theorem witness_QueueAndFlagRegisterWrites :
    base.capture.queue = [] ∧ base.reports.queue = [] ∧
    { base with capture := { resetCapture with queue := [aCapture] } }.capture.queue = aCapture :: [] ∧
    { base with reports := { resetReports with queue := [aReport] } }.reports.queue = aReport :: [] ∧
    aReport.missed ≤ 65535 :=
  ⟨rfl, rfl, rfl, rfl, by decide⟩

theorem witness_CaptureStatistics :
    CapacityInv busy ∧
    { base with capture :=
      { resetCapture with queue := List.replicate 32 aCapture } }.capture.queue.length = 32 :=
  ⟨witness_CapacitiesKeptByEveryStep, by decide⟩

/-- A READY port with no apply under way, and each state a staging command meets. -/
theorem witness_StagingCommandsAnswer :
    base.port.waiting = false ∧ base.port.held = none ∧ ¬ applying base ∧
    insertParamsOk insertFire = true ∧ insertionOf insertFire = some insertion8000 ∧
    insertParamsOk (insertFire.set 7 0x0300) = false :=
  ⟨rfl, rfl, (idle_serves_none rfl).2, by decide, by decide, by decide⟩

theorem witness_CommitAndDiscardAnswer :
    let s := withEdits .opened [.cancel entryB.handle] (holding [entryB] base)
    s.port.waiting = false ∧ s.port.held = none ∧ s.arbiter.activity = none ∧ s.batch.state = .opened ∧
    resolve entryB.handle s = .pending entryB ∧ resolve { slot := 0, gen := 0 } s = .stale ∧
    resolve { slot := 1, gen := 0 } s = .notPending ∧ base.batch.state = .empty ∧
    2 ≤ (2 : Word).toNat ∧ (1 : Word).toNat = 1 ∧
    (let u := underWay .expiry s
     ¬ applying u ∧ u.arbiter.activity ≠ none ∧ u.port.waiting = false ∧ u.port.held = none ∧
     u.batch.state = .opened ∧ u.port.params[0].toNat = 0 ∧ (run .batchCommit u).arbiter.apply = true ∧
     (run .batchDiscard u).batch.state = .empty) :=
  ⟨rfl, rfl, rfl, rfl, by decide +kernel, by decide +kernel, by decide +kernel, rfl, by decide, by decide,
    expiry_not_applying, by decide, rfl, rfl, rfl, by decide, by decide, by decide⟩

/-- An apply under way and another service, with parameters that pass the checks and that fail them; and, at an
IDLE agenda, each held command with an ended batch, and a held commit with ENTRY. -/
theorem witness_HeldCommandsAnsweredAtTheEnd :
    applying (underWay .apply base) ∧ (underWay .apply base).port.waiting = false ∧
    insertParamsOk insertFire = true ∧ insertParamsOk (insertFire.set 7 0x0300) = false ∧
    (1 : Word).toNat ≤ 1 ∧ 2 ≤ (2 : Word).toNat ∧
    (underWay .expiry base).arbiter.activity ≠ none ∧ ¬ applying (underWay .expiry base) ∧
    (let s := withEdits .opened [.cancel entryB.handle] (holding [entryB] base)
     s.arbiter.activity = none ∧ s.batch.state = .opened ∧ resolve entryB.handle s = .pending entryB) ∧
    (∀ code ∈ batchCodes,
      let s : State :=
        { base with
          port := { base.port with waiting := true, cmd := code, held := some .duringApply, params := insertFire }
          batch := { base.batch with state := .applied } }
      s.arbiter.activity = none ∧ s.port.held = some .duringApply ∧ s.port.cmd = code ∧
      s.batch.state = .applied ∧ insertionOf s.port.params = some insertion8000) :=
  ⟨⟨_, rfl, rfl⟩, rfl, by decide, by decide, by decide, by decide, by decide, expiry_not_applying,
    ⟨rfl, rfl, by decide +kernel⟩, fun _ _ => ⟨rfl, rfl, rfl, rfl, insertFire_insertion⟩⟩

/-- The apply claim granted: a batch of one INSERT within the horizon that passes the slot check; one whose
second edit fails; one whose three edits are made. An INSERT late under DROP and one that is not; handles
and an entry that each case of the table of R151 meets. -/
theorem witness_BatchAppliesAllEditsOrNone :
    (let s := applyWaits (withEdits .armed [.insert insertion8000, .cancel { slot := 9, gen := 7 }] base)
     nextClaim s = some .apply ∧
     (match makeEdits s.timebase.time none s.batch.staging 0 s.agenda with
      | .error x => decide (x = (1, .stale))
      | .ok _ => false) = true) ∧
    (let s := applyWaits (withEdits .armed
      [.insert insertion8000, .retime entryB.handle 1300, .cancel entryB.handle]
      (atTime 1000 (holding [entryB] base)))
     nextClaim s = some .apply ∧ s.batch.watch = none ∧
     (match makeEdits s.timebase.time none s.batch.staging 0 s.agenda with
      | .error _ => false
      | .ok x => decide (x.1.length = 3)) = true) ∧
    isLate insertion8000.due 8001 = true ∧ insertion8000.late = .fire ∧
    (let a := (holding [entryB] base).agenda
     a.free ≠ [] ∧ resolveIn { slot := 0, gen := 9 } a = .stale ∧
     resolveIn { slot := 1, gen := 0 } a = .notPending ∧ resolveIn entryB.handle a = .pending entryB) ∧
    inReturn entryB.job = false ∧ inReturn entryBReturn.job = true ∧ entryB.late = .fire ∧
    isLate 999 1000 = true ∧
    let s := applyWaits (withEdits .armed [.insert insertion8000] (atTime 7990 base))
    nextClaim s = some .apply ∧ s.batch.staging = [.insert insertion8000] ∧
    isLate insertion8000.due s.timebase.time = false ∧
    (∃ slot rest, s.agenda.free = slot :: rest ∧ s.agenda.reserve ≤ rest.length) :=
  ⟨⟨by decide, by decide +kernel⟩, ⟨by decide, rfl, by decide +kernel⟩, by decide, rfl,
    ⟨List.cons_ne_nil _ _, by decide +kernel, by decide +kernel, by decide +kernel⟩, rfl, rfl, rfl, by decide,
    by decide, rfl, by decide, 0, _, rfl, by decide +kernel⟩

end Sys2Proof.Machine.Tests
end

section
/-! Chapter Time: the halves the host moves TIME by (R8, R9, R10), and TB_CTRL (R4, R5, R6).

The write hold and the read snapshot stand in a block of the state that ticks and TB_CTRL writes change too.
`KeepsHalves s t` says that `t` has both as `s` has them. Every command but the TIME_HI write, the TIME_LO read
and the device reset keeps them (`exec_halves`), and so does a core-clock period; most of it follows from the
blocks that each operation changes at most (`Keeps`). -/

-- Each lemma waits for the ones before it: elaborated side by side they hold a thread each.
set_option Elab.async false

namespace Sys2Proof.Machine

variable {s t u : State}

/-! ## The blocks each command changes at most

No timebase among them: these operations leave TIME, its halves and TB_CTRL as they were. -/

/-! ### Registers of one block -/

theorem setSelectedRow_keeps (r : Row) (s : State) : Keeps [.reactions] s (setSelectedRow r s) :=
  setRow_keeps _ r s

theorem controlArm_keeps (s : State) : Keeps [.reactions, .irq] s (controlArm s) := by
  unfold controlArm
  dsimp only
  split
  · split
    · exact (refuse_keeps _ _ s).mono
    · exact (setSelectedRow_keeps _ s).mono
  · exact (refuse_keeps _ _ s).mono
  · exact (refuse_keeps _ _ s).mono

theorem controlDisarm_keeps (s : State) : Keeps [.reactions, .irq] s (controlDisarm s) := by
  unfold controlDisarm
  dsimp only
  split
  · exact Keeps.refl _ s
  · exact (setSelectedRow_keeps _ s).mono
  · exact (setSelectedRow_keeps _ s).mono

theorem controlRearm_keeps (s : State) : Keeps [.reactions, .irq] s (controlRearm s) := by
  unfold controlRearm
  dsimp only
  split
  · exact (refuse_keeps _ _ s).mono
  · exact (refuse_keeps _ _ s).mono
  · exact (setSelectedRow_keeps _ s).mono

theorem writeRowField_keeps (k : Fin 7) (v : Word) (s : State) :
    Keeps [.reactions, .irq] s (writeRowField k v s) := by
  unfold writeRowField
  dsimp only
  split
  · split
    · exact (setSelectedRow_keeps _ s).mono
    · exact (refuse_keeps _ _ s).mono
  · exact (refuse_keeps _ _ s).mono
  · exact (refuse_keeps _ _ s).mono

theorem writeRow_keeps (k : Fin 7) (v : Word) (s : State) :
    Keeps [.reactions, .irq] s (writeRow k v s) := by
  unfold writeRow
  split
  · split
    · exact controlArm_keeps s
    · exact controlDisarm_keeps s
    · exact controlRearm_keeps s
    · exact writeRowField_keeps 0 v s
  · exact writeRowField_keeps k v s

theorem writeRowSel_keeps (v : Word) (s : State) : Keeps [.reactions, .irq] s (writeRowSel v s) := by
  unfold writeRowSel
  split
  · exact (withReactions_keeps _ s).mono
  · exact (refuse_keeps _ _ s).mono

theorem writeReactStat_keeps (s : State) : Keeps [.reactions] s (writeReactStat s) :=
  withReactions_keeps _ s

theorem writeInCfg_keeps (n : Fin 8) (v : Word) (s : State) :
    Keeps [.capture, .irq] s (writeInCfg n v s) := by
  unfold writeInCfg
  split
  · split
    · exact (setInput_keeps _ _ s).mono
    · exact (refuse_keeps _ _ s).mono
  · exact (refuse_keeps _ _ s).mono

theorem writeFilterInt_keeps (v : Word) (s : State) : Keeps [.capture, .irq] s (writeFilterInt v s) := by
  unfold writeFilterInt
  split
  · exact (withCapture_keeps _ s).mono
  · exact (refuse_keeps _ _ s).mono

theorem writeCapTh_keeps (v : Word) (s : State) : Keeps [.capture, .irq] s (writeCapTh v s) := by
  unfold writeCapTh
  split
  · exact (withCapture_keeps _ s).mono
  · exact (refuse_keeps _ _ s).mono

theorem writeCapStat_keeps (s : State) : Keeps [.capture] s (writeCapStat s) := withCapture_keeps _ s

theorem popCapture_keeps (s : State) : Keeps [.capture, .irq] s (popCapture s) := by
  unfold popCapture
  split
  · exact (refuse_keeps _ _ s).mono
  · exact (withCapture_keeps _ s).mono

theorem writeRptTh_keeps (v : Word) (s : State) : Keeps [.reports, .irq] s (writeRptTh v s) := by
  unfold writeRptTh
  split
  · exact (withReports_keeps _ s).mono
  · exact (refuse_keeps _ _ s).mono

theorem writeRptStat_keeps (s : State) : Keeps [.reports] s (writeRptStat s) := withReports_keeps _ s

theorem popReport_keeps (s : State) : Keeps [.reports, .irq] s (popReport s) := by
  unfold popReport
  split
  · exact (refuse_keeps _ _ s).mono
  · exact (withReports_keeps _ s).mono

theorem writeBatchSel_keeps (v : Word) (s : State) : Keeps [.batch, .irq] s (writeBatchSel v s) := by
  unfold writeBatchSel
  split
  · exact (withBatch_keeps _ s).mono
  · exact (refuse_keeps _ _ s).mono

theorem writeReserve_keeps (v : Word) (s : State) : Keeps [.agenda, .irq] s (writeReserve v s) := by
  unfold writeReserve
  split
  · exact (withAgenda_keeps _ s).mono
  · exact (refuse_keeps _ _ s).mono

theorem writePoolLow_keeps (v : Word) (s : State) : Keeps [.agenda, .irq] s (writePoolLow v s) := by
  unfold writePoolLow
  split
  · exact (withAgenda_keeps _ s).mono
  · exact (refuse_keeps _ _ s).mono

theorem writeFlags_keeps (v : Word) (s : State) : Keeps [.irq] s (writeFlags v s) := withFlags_keeps _ s

theorem writeIrqEn_keeps (v : Word) (s : State) : Keeps [.irq] s (writeIrqEn v s) := by
  constructor
  case irq => exact fun n => absurd (List.mem_singleton_self _) n
  all_goals exact fun _ => rfl

theorem writeLineCfg_keeps (l : Fin 16) (v : Word) (s : State) :
    Keeps [.lines, .irq] s (writeLineCfg l v s) := by
  unfold writeLineCfg
  split
  · split
    · split
      · exact (refuse_keeps _ _ s).mono
      · exact (withLines_keeps _ s).mono
    · exact (refuse_keeps _ _ s).mono
  · exact (refuse_keeps _ _ s).mono
  · exact (refuse_keeps _ _ s).mono

theorem writePairCfg_keeps (p : Fin 8) (v : Word) (s : State) :
    Keeps [.lines, .irq] s (writePairCfg p v s) := by
  unfold writePairCfg
  split
  · split
    · exact (refuse_keeps _ _ s).mono
    · exact (setPair_keeps _ _ s).mono
  · exact (refuse_keeps _ _ s).mono
  · exact (refuse_keeps _ _ s).mono

theorem writeGroupCfg_keeps (g : Fin 4) (v : Word) (s : State) :
    Keeps [.groups, .irq] s (writeGroupCfg g v s) := by
  unfold writeGroupCfg
  split
  · split
    · exact (withGroup_keeps _ _ s).mono
    · exact (refuse_keeps _ _ s).mono
  · exact (refuse_keeps _ _ s).mono
  · exact (refuse_keeps _ _ s).mono

theorem writeGroupStat_keeps (g : Fin 4) (v : Word) (s : State) :
    Keeps [.groups, .irq] s (writeGroupStat g v s) := by
  unfold writeGroupStat
  split
  · exact (withGroup_keeps _ _ s).mono
  · exact (refuse_keeps _ _ s).mono

/-! ### The command port -/

/-- The blocks that a command's acceptance or answer changes at most. -/
def portBlocks : List Block := [.arbiter, .lines, .groups, .batch, .port, .irq]

theorem complete_keeps (c : ResultCode) (w : List Word) (s : State) :
    Keeps [.port, .irq] s (complete c w s) :=
  (withPort_keeps _ s).andThen (withFlags_keeps _ _)

/-- A command answered at once changes what its owner changes, the port and the flags. -/
theorem completeWith_keeps {x : ResultCode × State} (h : Keeps portBlocks s x.2) :
    Keeps portBlocks s (completeWith x) :=
  h.andThen (complete_keeps _ _ _)

theorem badParam_keeps (s : State) : Keeps portBlocks s (badParam s) := (complete_keeps _ _ s).mono

theorem raiseHost_keeps (s : State) : Keeps portBlocks s (raiseHost s) :=
  (withPort_keeps _ s).andThen (withArbiter_keeps _ _)

theorem hold_keeps (h : Held) (s : State) : Keeps portBlocks s (hold h s) := (withPort_keeps _ s).mono

theorem judgeInsert_keeps (s : State) : Keeps portBlocks s (judgeInsert s) := by
  unfold judgeInsert
  split
  · exact raiseHost_keeps s
  · exact badParam_keeps s

theorem judgeQuery_keeps (s : State) : Keeps portBlocks s (judgeQuery s) := by
  unfold judgeQuery
  split
  · exact raiseHost_keeps s
  · exact badParam_keeps s

theorem judgeLineSet_keeps (s : State) : Keeps portBlocks s (judgeLineSet s) := by
  unfold judgeLineSet
  dsimp only
  split
  · exact completeWith_keeps (request_keeps _ _ s).mono
  · exact badParam_keeps s

theorem judgeGroup_keeps {answer : Fin 4 → State → ResultCode × State}
    (h : ∀ g s, Keeps [.groups] s (answer g s).2) (s : State) :
    Keeps portBlocks s (judgeGroup answer s) := by
  unfold judgeGroup
  split
  · exact completeWith_keeps (h _ s).mono
  · exact badParam_keeps s

theorem judgeTrip_keeps (s : State) : Keeps portBlocks s (judgeTrip s) := by
  unfold judgeTrip
  split
  · exact completeWith_keeps (tripMask_keeps _ _ s).mono
  · exact badParam_keeps s

theorem answerInsert_keeps (s : State) : Keeps [.batch, .arbiter] s (answerInsert s).2 := by
  unfold answerInsert
  split
  · exact (stage_keeps _ s).mono
  · exact Keeps.refl _ s

theorem answerCancel_keeps (s : State) : Keeps [.batch, .arbiter] s (answerCancel s).2 :=
  (stage_keeps _ s).mono

theorem answerRetime_keeps (s : State) : Keeps [.batch, .arbiter] s (answerRetime s).2 :=
  (stage_keeps _ s).mono

theorem answerCommit_keeps (s : State) : Keeps [.batch, .arbiter] s (answerCommit s).2 := by
  unfold answerCommit
  split
  · exact commitNow_keeps s
  · exact (commitEntry_keeps _ s).mono
  · exact Keeps.refl _ s

theorem judgeBatch_keeps {answer : State → ResultCode × State}
    (h : ∀ s, Keeps [.batch, .arbiter] s (answer s).2) (s : State) :
    Keeps portBlocks s (judgeBatch answer s) := by
  unfold judgeBatch
  split
  · exact hold_keeps _ s
  · exact completeWith_keeps (h s).mono

theorem judgeBatchInsert_keeps (s : State) : Keeps portBlocks s (judgeBatchInsert s) := by
  unfold judgeBatchInsert
  split
  · exact judgeBatch_keeps answerInsert_keeps s
  · exact badParam_keeps s

theorem judgeCommit_keeps (s : State) : Keeps portBlocks s (judgeCommit s) := by
  unfold judgeCommit
  split
  · exact judgeBatch_keeps answerCommit_keeps s
  · split
    · exact hold_keeps _ s
    · split
      · exact hold_keeps _ s
      · exact completeWith_keeps (answerCommit_keeps s).mono
  · exact badParam_keeps s

/-- The acceptance of a command, by its code (R173, R200). -/
theorem judge_keeps (v : Word) (s : State) : Keeps portBlocks s (judge v s) := by
  generalize e : judge v = f
  unfold judge at e
  split at e <;> subst e
  · exact judgeInsert_keeps s
  · exact raiseHost_keeps s
  · exact raiseHost_keeps s
  · exact raiseHost_keeps s
  · exact judgeQuery_keeps s
  · exact raiseHost_keeps s
  · exact judgeLineSet_keeps s
  · exact judgeGroup_keeps startGroup_keeps s
  · exact judgeGroup_keeps stopGroup_keeps s
  · exact judgeTrip_keeps s
  · exact judgeGroup_keeps releaseGroup_keeps s
  · exact judgeBatchInsert_keeps s
  · exact judgeBatch_keeps answerCancel_keeps s
  · exact judgeBatch_keeps answerRetime_keeps s
  · exact judgeCommit_keeps s
  · exact judgeBatch_keeps discard_keeps s
  · exact raiseHost_keeps s
  · exact (complete_keeps _ _ s).mono

/-- A CMD write: refused, or accepted by its code. -/
theorem writeCmd_keeps (v : Word) (s : State) : Keeps portBlocks s (writeCmd v (judge v) s) := by
  unfold writeCmd
  split
  · exact (refuse_keeps _ _ s).mono
  · exact (withPort_keeps _ s).andThen (judge_keeps v _)

theorem writeParam_keeps (k : Fin 8) (v : Word) (s : State) : Keeps [.port, .irq] s (writeParam k v s) := by
  unfold writeParam
  split
  · exact (refuse_keeps _ _ s).mono
  · exact (withPort_keeps _ s).mono

theorem answerHeld_keeps (s : State) : Keeps [.batch, .arbiter] s (answerHeld s).2 := by
  unfold answerHeld
  split
  · exact answerInsert_keeps s
  · exact answerCancel_keeps s
  · exact answerRetime_keeps s
  · exact answerCommit_keeps s
  · exact discard_keeps s

theorem heldAnswer_keeps (h : Held) (s : State) : Keeps portBlocks s (heldAnswer h s) := by
  unfold heldAnswer
  split
  · exact completeWith_keeps (answerHeld_keeps s).mono
  · exact Keeps.refl _ s

/-! ### The agenda and its arbiter -/

/-- The blocks that the agenda's services and its arbiter change at most. -/
def serviceBlocks : List Block :=
  [.agenda, .arbiter, .lines, .groups, .capture, .reactions, .batch, .reports, .port, .irq]

theorem endService_keeps (v : Service) (s : State) : Keeps [.agenda, .arbiter] s (endService v s) :=
  (withAgenda_keeps _ s).andThen (withArbiter_keeps _ _)

theorem advance_keeps (v : Service) (s : State) : Keeps serviceBlocks s (advance v s) := by
  rcases advance_cases v s with ⟨-, e⟩ | ⟨k, ks, -, -, e⟩ | ⟨k, ks, -, -, e⟩ <;> rw [e]
  · exact (endService_keeps v s).mono
  · exact (runTask_keeps k s).andThen (endService_keeps v _)
  · exact (runTask_keeps k s).andThen (serving_keeps _ _)

theorem finish_keeps (v : Service) (s : State) : Keeps serviceBlocks s (finish v s) :=
  (runTasks_keeps v.todo s).andThen (endService_keeps v _)

theorem serviceRow_keeps (part : ServicePart) (c : Claim) (serves : Service → State → Bool) (s : State) :
    Keeps serviceBlocks s (serviceRow part c serves s) := by
  rcases serviceRow_cases part c serves s with e | ⟨-, -, e | e⟩ | ⟨v, -, -, -, e | e⟩ <;> rw [e]
  · exact Keeps.refl _ s
  · exact (granted_keeps c s).mono
  · exact (granted_keeps c s).andThen (finish_keeps _ _)
  · exact advance_keeps v s
  · exact finish_keeps v s

theorem answerAtEnd_keeps (s : State) : Keeps portBlocks s (answerAtEnd s) := by
  unfold answerAtEnd
  split
  · exact heldAnswer_keeps _ s
  · exact Keeps.refl _ s

theorem firstRequest_keeps (s : State) : Keeps [.arbiter, .lines] s (firstRequest s) := by
  rcases firstRequest_eq s with e | ⟨v, l, r, record, ks, -, -, e⟩ <;> rw [e]
  · exact Keeps.refl _ s
  · exact (request_keeps l r s).andThen (serving_keeps _ _)

theorem grantNext_keeps (s : State) : Keeps serviceBlocks s (grantNext s) := by
  rcases grantNext_cases s with ⟨-, e⟩ | ⟨c, -, e⟩ <;> rw [e]
  · exact Keeps.refl _ s
  · exact (granted_keeps c s).andThen (firstRequest_keeps _)

theorem arbiterMove_keeps (s : State) : Keeps serviceBlocks s (arbiterMove s) := by
  have service : Keeps serviceBlocks s
      (match s.arbiter.activity with | some v => advance v s | none => s) := by
    split
    · exact advance_keeps _ s
    · exact Keeps.refl _ s
  rw [arbiterMove_eq]
  exact (service.andThen (answerAtEnd_keeps _) (ds := serviceBlocks)).andThen (grantNext_keeps _)

/-! ### Pins -/

theorem setTripSamples_keeps (pin : Fin 2) (d : EdgeSamples) (s : State) :
    Keeps [.pins] s (setTripSamples pin d s) := withPins_keeps _ s

theorem setTripPin_keeps (pin : Fin 2) (level : Bool) (s : State) :
    Keeps [.pins] s (setTripPin pin level s) := withPins_keeps _ s

theorem tripPinFall_keeps (pin : Fin 2) (s : State) :
    Keeps [.groups, .lines, .arbiter, .irq, .pins] s
      (if canFall pin s then pinTrip pin (setTripSamples pin fallSeen (setTripPin pin false s)) else s) := by
  split
  · exact ((setTripPin_keeps pin false s).andThen (setTripSamples_keeps pin _ _) (ds := [.pins])).andThen
      (pinTrip_keeps pin _)
  · exact Keeps.refl _ s

theorem tripPinRise_keeps (pin : Fin 2) (s : State) :
    Keeps [.pins] s
      (setTripSamples pin (takeSample s.pins.tripSamples[pin] false).1 (setTripPin pin true s)) :=
  (setTripPin_keeps pin true s).andThen (setTripSamples_keeps pin _ _)

theorem pinSample_keeps (n : Fin 8) (level : Bool) (s : State) :
    Keeps [.reactions, .irq, .groups, .lines, .arbiter, .capture, .pins] s
      (sampleInput n level (setInputPin n level s)) :=
  (setInputPin_keeps n level s).andThen (sampleInput_keeps n level _)

/-! ## The write hold and the read snapshot -/

/-- `t` has the write hold and the read snapshot of `s`. -/
structure KeepsHalves (s t : State) : Prop where
  writeHold : t.timebase.writeHold = s.timebase.writeHold
  snapshot : t.timebase.snapshot = s.timebase.snapshot

theorem KeepsHalves.refl (s : State) : KeepsHalves s s := ⟨rfl, rfl⟩

theorem KeepsHalves.trans (h : KeepsHalves s t) (k : KeepsHalves t u) : KeepsHalves s u :=
  ⟨k.writeHold.trans h.writeHold, k.snapshot.trans h.snapshot⟩

/-- What leaves the timebase keeps both. -/
theorem Keeps.halves {bs : List Block} (h : Keeps bs s t) (n : .timebase ∉ bs := by decide) :
    KeepsHalves s t := by
  have e := h.timebase n
  exact ⟨congrArg _ e, congrArg _ e⟩

theorem advanceTime_keepsHalves (s : State) : KeepsHalves s (advanceTime s) := by
  constructor <;> simp [advanceTime]

theorem countSourceEvent_keepsHalves (x : TickSource) (s : State) :
    KeepsHalves s (countSourceEvent x s) := by
  unfold countSourceEvent
  split
  · split
    · exact advanceTime_keepsHalves s
    · exact ⟨rfl, rfl⟩
  · exact .refl s

theorem tick_keepsHalves (s : State) :
    KeepsHalves s (if s.timebase.running && tickDue s.timebase then advanceTime s else s) := by
  split
  · exact advanceTime_keepsHalves s
  · exact .refl s

theorem writeTbCtrl_keepsHalves (run : Bool) (x : TickSource) (p : BitVec 8) (s : State) :
    KeepsHalves s (writeTbCtrl run x p s) := by
  unfold writeTbCtrl
  dsimp only
  split
  · split
    · cases run <;> exact ⟨rfl, rfl⟩
    · exact (refuse_keeps _ _ s).halves
  · cases run <;> exact ⟨rfl, rfl⟩

theorem writeTimeLo_keepsHalves (v : Word) (s : State) : KeepsHalves s (writeTimeLo v s) := by
  unfold writeTimeLo
  split
  · exact ⟨rfl, rfl⟩
  · exact (refuse_keeps _ _ s).halves

theorem clockTimebase_keepsHalves (s : State) : KeepsHalves s (clockTimebase s) := by
  have internal : KeepsHalves s (countSourceEvent .internal (sampleTclk s).1) :=
    (withPins_keeps _ s).halves.trans (countSourceEvent_keepsHalves _ _)
  unfold clockTimebase
  dsimp only
  split
  · exact (internal.trans (countSourceEvent_keepsHalves _ _)).trans (endReachedGuards_keeps _).halves
  · exact internal.trans (endReachedGuards_keeps _).halves

/-- A core-clock period ticks and serves, and moves neither half (R8, R10). -/
theorem clockPeriod_keepsHalves (s : State) : KeepsHalves s (clockPeriod s) :=
  (clockTimebase_keepsHalves s).trans <| (sampleTripPin_keeps 0 _).halves.trans <|
    (sampleTripPin_keeps 1 _).halves.trans <| (clockInputs_keeps _).halves.trans (arbiterMove_keeps _).halves

/-! ## Every command -/

/-- The register that takes the write hold stands at one address (R194). -/
theorem registerAt_eq_timeHi {a : BitVec 7} : registerAt a = .timeHi ↔ a = 0x03 := by
  revert a
  decide

/-- A write of any register but TIME_HI keeps both halves (R192). -/
theorem writeRegister_keepsHalves {r : Register} (h : r ≠ .timeHi) (v : Word) (s : State) :
    KeepsHalves s (writeRegister r v s) := by
  cases r with
  | timeHi => exact absurd rfl h
  | tbCtrl => exact writeTbCtrl_keepsHalves _ _ _ s
  | timeLo => exact writeTimeLo_keepsHalves v s
  | flags => exact (writeFlags_keeps v s).halves
  | irqEn => exact (writeIrqEn_keeps v s).halves
  | cmd => exact (writeCmd_keeps v s).halves
  | param k => exact (writeParam_keeps k v s).halves
  | reserve => exact (writeReserve_keeps v s).halves
  | poolLow => exact (writePoolLow_keeps v s).halves
  | lineCfg n => exact (writeLineCfg_keeps n v s).halves
  | pairCfg p => exact (writePairCfg_keeps p v s).halves
  | groupCfg g => exact (writeGroupCfg_keeps g v s).halves
  | groupStat g => exact (writeGroupStat_keeps g v s).halves
  | inCfg n => exact (writeInCfg_keeps n v s).halves
  | filterInt => exact (writeFilterInt_keeps v s).halves
  | capTh => exact (writeCapTh_keeps v s).halves
  | capStat => exact (writeCapStat_keeps s).halves
  | capPop => exact (popCapture_keeps s).halves
  | rptTh => exact (writeRptTh_keeps v s).halves
  | rptStat => exact (writeRptStat_keeps s).halves
  | rptPop => exact (popReport_keeps s).halves
  | rowSel => exact (writeRowSel_keeps v s).halves
  | row k => exact (writeRow_keeps k v s).halves
  | reactStat => exact (writeReactStat_keeps s).halves
  | batchSel => exact (writeBatchSel_keeps v s).halves
  | _ => exact (refuse_keeps _ _ s).halves

/-- What a command does to the two halves: it keeps both, or it is the write of TIME_HI, the read of TIME_LO
or the device reset (R8, R10, R14). -/
theorem exec_halves (c : Instr) (s : State) : ∃ t, exec c s = .next t ∧
    (KeepsHalves s t ∨ (∃ v, (c = .timeHiWrite v ∨ c = .registerWrite 0x03 v) ∧ t = writeTimeHi v s) ∨
      (c = .timeLoRead ∧ t = readTimeLo s) ∨ (c = .deviceReset ∧ t = deviceReset s)) := by
  cases c with
  | timeHiWrite v => exact ⟨_, rfl, .inr (.inl ⟨v, .inl rfl, rfl⟩)⟩
  | timeLoRead => exact ⟨_, rfl, .inr (.inr (.inl ⟨rfl, rfl⟩))⟩
  | deviceReset => exact ⟨_, rfl, .inr (.inr (.inr ⟨rfl, rfl⟩))⟩
  | registerWrite a v =>
    by_cases e : a = 0x03
    · subst e
      exact ⟨_, rfl, .inr (.inl ⟨v, .inr rfl, rfl⟩)⟩
    · exact ⟨_, rfl, .inl (writeRegister_keepsHalves (fun n => e (registerAt_eq_timeHi.1 n)) v s)⟩
  | tick => exact ⟨_, rfl, .inl (tick_keepsHalves s)⟩
  | sourceEvent x => exact ⟨_, rfl, .inl (countSourceEvent_keepsHalves x s)⟩
  | start | stop | tbConfig => exact ⟨_, rfl, .inl (writeTbCtrl_keepsHalves _ _ _ s)⟩
  | timeLoWrite v => exact ⟨_, rfl, .inl (writeTimeLo_keepsHalves v s)⟩
  | expiryService | insertService | cancelService | retimeService | cancelTagService | queryService
  | headService | engineResetService | purge | reactionSchedule | reactionCancelTag | batchApply =>
    exact ⟨_, rfl, .inl (serviceRow_keeps _ _ _ s).halves⟩
  | insert | cancel | retime | cancelTag | query | head | engineReset | badCommand | lineSet | groupStart
  | groupStop | trip | release | batchInsert | batchCancel | batchRetime | batchCommit | batchDiscard =>
    exact ⟨_, rfl, .inl (writeCmd_keeps _ s).halves⟩
  | commitEntryAnswer | heldBatchAnswer => exact ⟨_, rfl, .inl (heldAnswer_keeps _ s).halves⟩
  | parameterWrite k v => exact ⟨_, rfl, .inl (writeParam_keeps k v s).halves⟩
  | tripPinFall pin => exact ⟨_, rfl, .inl (tripPinFall_keeps pin s).halves⟩
  | tripPinRise pin => exact ⟨_, rfl, .inl (tripPinRise_keeps pin s).halves⟩
  | guardEnd p => exact ⟨_, rfl, .inl (guardEndIfReached_keeps p s).halves⟩
  | inputChange n level => exact ⟨_, rfl, .inl (pinSample_keeps n level s).halves⟩
  | settledLevelFollowsPin n level => exact ⟨_, rfl, .inl (pinSample_keeps n level s).halves⟩
  | filterSample levels => exact ⟨_, rfl, .inl (filterMoment_keeps levels s).halves⟩
  | arm => exact ⟨_, rfl, .inl (controlArm_keeps s).halves⟩
  | disarm => exact ⟨_, rfl, .inl (controlDisarm_keeps s).halves⟩
  | rearm => exact ⟨_, rfl, .inl (controlRearm_keeps s).halves⟩
  | rowFieldWrite k v => exact ⟨_, rfl, .inl (writeRow_keeps k v s).halves⟩
  | lineCfgWrite l v => exact ⟨_, rfl, .inl (writeLineCfg_keeps l v s).halves⟩
  | pairCfgWrite p v => exact ⟨_, rfl, .inl (writePairCfg_keeps p v s).halves⟩
  | groupCfgWrite g v => exact ⟨_, rfl, .inl (writeGroupCfg_keeps g v s).halves⟩
  | statusViewSelect g v => exact ⟨_, rfl, .inl (writeGroupStat_keeps g v s).halves⟩
  | inCfgWrite n v => exact ⟨_, rfl, .inl (writeInCfg_keeps n v s).halves⟩
  | filterIntWrite v => exact ⟨_, rfl, .inl (writeFilterInt_keeps v s).halves⟩
  | capPop => exact ⟨_, rfl, .inl (popCapture_keeps s).halves⟩
  | capStatWrite => exact ⟨_, rfl, .inl (writeCapStat_keeps s).halves⟩
  | capThWrite v => exact ⟨_, rfl, .inl (writeCapTh_keeps v s).halves⟩
  | rptPop => exact ⟨_, rfl, .inl (popReport_keeps s).halves⟩
  | rptStatWrite => exact ⟨_, rfl, .inl (writeRptStat_keeps s).halves⟩
  | rptThWrite v => exact ⟨_, rfl, .inl (writeRptTh_keeps v s).halves⟩
  | reactStatWrite => exact ⟨_, rfl, .inl (writeReactStat_keeps s).halves⟩
  | flagsWrite v => exact ⟨_, rfl, .inl (writeFlags_keeps v s).halves⟩
  | irqEnWrite v => exact ⟨_, rfl, .inl (writeIrqEn_keeps v s).halves⟩

/-- A step on an empty queue keeps both halves: it is a core-clock period. -/
theorem step_keepsHalves_of_idle (q : s.pending = []) (h : step s = .next t) : KeepsHalves s t := by
  unfold step at h
  rw [q] at h
  obtain rfl := Host.Outcome.next.inj h
  exact clockPeriod_keepsHalves s

/-- Settles O16: of the commands that change a half, only the TIME_HI write and the device reset reach the
write hold. -/
theorem timeHighWriteHold : Obligations.TimeHighWriteHold := by
  refine ⟨fun _ _ => rfl, fun c s t h notRow notWrite notReset => ?_,
    fun s t q h => (step_keepsHalves_of_idle q h).writeHold⟩
  obtain ⟨u, e, kept | ⟨v, rfl | rfl, -⟩ | ⟨-, rfl⟩ | ⟨rfl, -⟩⟩ := exec_halves c s <;>
    obtain rfl := Host.Outcome.next.inj (h.symm.trans e)
  · exact kept.writeHold
  · exact absurd rfl (notRow v)
  · exact absurd rfl (notWrite v)
  · rfl
  · exact absurd rfl notReset

/-! ## Reading TIME -/

/-- D0..D15 carry TIME modulo 65536 at a TIME_LO read (R10). -/
theorem loHalf_toNat (x : Time) : (loHalf x).toNat = x.toNat % 65536 := by simp [loHalf]

/-- The read snapshot takes TIME divided by 65536 (R10). -/
theorem hiHalf_toNat (x : Time) : (hiHalf x).toNat = x.toNat / 65536 := by
  have := x.isLt
  rw [hiHalf, BitVec.toNat_setWidth, BitVec.toNat_ushiftRight, Nat.shiftRight_eq_div_pow]
  omega

/-- A read of TIME_HI returns the read snapshot (R10). -/
theorem readWord_timeHi (s : State) : readWord s 0x03 = s.timebase.snapshot := rfl

/-- Settles O17: of the commands that change a half, only the TIME_LO read and the device reset reach the read
snapshot, which is what a TIME_HI read returns. -/
theorem timeReadSnapshot : Obligations.TimeReadSnapshot := by
  refine ⟨fun s => ⟨readTimeLo s, rfl, rfl, loHalf_toNat _, hiHalf_toNat _⟩,
    fun c s t h notRead notReset => ?_, fun s t q h => (step_keepsHalves_of_idle q h).snapshot, ?_⟩
  · simp only [readWord_timeHi]
    obtain ⟨u, e, kept | ⟨v, -, rfl⟩ | ⟨rfl, -⟩ | ⟨rfl, -⟩⟩ := exec_halves c s <;>
      obtain rfl := Host.Outcome.next.inj (h.symm.trans e)
    · exact kept.snapshot
    · rfl
    · exact absurd rfl notRead
    · exact absurd rfl notReset
  · intro s t h
    obtain rfl := Host.Outcome.next.inj h
    rfl

/-! ## TB_CTRL -/

/-- A TB_CTRL write to a STOPPED timebase is taken, and with RUN it starts at phase 0 (R4, R6). -/
theorem writeTbCtrl_of_stopped (h : s.timebase.running = false) (run : Bool) (x : TickSource)
    (p : BitVec 8) :
    writeTbCtrl run x p s =
      withTimebase
        { s.timebase with
          running := run, source := x, prescaleField := p, phase := if run then 0 else s.timebase.phase } s := by
  cases run <;> simp [writeTbCtrl, h]

/-- A TB_CTRL write to a RUNNING timebase that keeps source and prescale: with RUN nothing, else the stop
(R5, R6). -/
theorem writeTbCtrl_of_running (h : s.timebase.running = true) (run : Bool) :
    writeTbCtrl run s.timebase.source s.timebase.prescaleField s =
      if run then s else withTimebase { s.timebase with running := false } s := by
  simp [writeTbCtrl, h]

/-- A TB_CTRL write to a RUNNING timebase that changes source or prescale is refused (R6). -/
theorem writeTbCtrl_refused (h : s.timebase.running = true) {x : TickSource} {p : BitVec 8}
    (k : ¬ (x = s.timebase.source ∧ p = s.timebase.prescaleField)) (run : Bool) :
    writeTbCtrl run x p s = refusedWrite .wrongState 0x01 s := by
  unfold writeTbCtrl
  dsimp only
  rw [if_pos h, if_neg k]
  rfl

theorem getLsbD_bitWord (b : Bool) (n : Nat) {i : Nat} (h : i < 16) :
    (bitWord b n).getLsbD i = (b && decide (n = i)) := by
  cases b
  · simp [bitWord]
  · rw [bitWord, if_pos rfl]
    change (1#16 <<< n).getLsbD i = _
    rw [← BitVec.twoPow_eq, BitVec.getLsbD_twoPow]
    grind

/-- The SOURCE field is bit 8 (R202). -/
theorem fieldWord_sourceCode (x : TickSource) : fieldWord (sourceCode x) 8 = bitWord (x = .external) 8 := by
  cases x <;> rfl

/-- The bits of the TB_CTRL word: PRESCALE in 7:0, SOURCE in 8, RUN in 15 (R202). -/
theorem getLsbD_tbCtrlWord (run : Bool) (x : TickSource) (p : BitVec 8) {i : Nat} (h : i < 16) :
    (tbCtrlWord run x p).getLsbD i =
      (p.getLsbD i || (decide (x = .external) && decide (8 = i)) || (run && decide (15 = i))) := by
  simp only [tbCtrlWord, fieldWord_sourceCode, BitVec.getLsbD_or, BitVec.getLsbD_setWidth,
    getLsbD_bitWord _ _ h, h, decide_true, Bool.true_and]

/-- A write of a TB_CTRL word is the write of its fields (R6, R202). -/
theorem writeTbCtrlWord_tbCtrlWord (run : Bool) (x : TickSource) (p : BitVec 8) (s : State) :
    writeTbCtrlWord (tbCtrlWord run x p) s = writeTbCtrl run x p s := by
  have hr : bit (tbCtrlWord run x p) 15 = run := by
    rw [bit, getLsbD_tbCtrlWord _ _ _ (by decide), BitVec.getLsbD_of_ge p 15 (by decide)]
    simp
  have hx : (if bit (tbCtrlWord run x p) 8 then TickSource.external else .internal) = x := by
    rw [bit, getLsbD_tbCtrlWord _ _ _ (by decide), BitVec.getLsbD_of_ge p 8 (by decide)]
    cases x <;> simp
  have hp : (tbCtrlWord run x p).setWidth 8 = p := by
    refine BitVec.eq_of_getLsbD_eq fun i hi => ?_
    rw [BitVec.getLsbD_setWidth, getLsbD_tbCtrlWord _ _ _ (by omega)]
    simp [hi, show 8 ≠ i by omega, show 15 ≠ i by omega]
  rw [writeTbCtrlWord, hr, hx, hp]

/-- The TB_CTRL word as a number: its three fields do not overlap (R202). -/
theorem toNat_tbCtrlWord (run : Bool) (x : TickSource) (p : BitVec 8) :
    (tbCtrlWord run x p).toNat =
      p.toNat + 256 * (if x = .external then 1 else 0) + 32768 * (if run then 1 else 0) := by
  have hx : (fieldWord (sourceCode x) 8).toNat = 2 ^ 8 * (if x = .external then 1 else 0) := by
    cases x <;> rfl
  have hr : (bitWord run 15).toNat = 2 ^ 15 * (if run then 1 else 0) := by cases run <;> rfl
  have low := p.isLt
  have mid : 2 ^ 8 * (if x = .external then 1 else 0) + p.toNat < 2 ^ 15 := by split <;> omega
  have hp : (p.setWidth 16).toNat = p.toNat := by rw [BitVec.toNat_setWidth]; omega
  rw [tbCtrlWord, BitVec.toNat_or, BitVec.toNat_or, hx, hr, hp, Nat.or_comm p.toNat,
    ← Nat.two_pow_add_eq_or_of_lt low, Nat.or_comm, ← Nat.two_pow_add_eq_or_of_lt mid]
  omega

/-- The TB_CTRL word of the fields of a word is that word without its unused bits (R193, R202). -/
theorem tbCtrlWord_fields (v : Word) :
    tbCtrlWord (bit v 15) (if bit v 8 then .external else .internal) (v.setWidth 8) = v &&& 0x81FF := by
  have mask : ∀ i < 16, (0x81FF : Word).getLsbD i =
      (decide (i < 8) || decide (8 = i) || decide (15 = i)) := by decide
  have source : decide ((if bit v 8 then TickSource.external else .internal) = .external) = bit v 8 := by
    cases bit v 8 <;> rfl
  refine BitVec.eq_of_getLsbD_eq fun i hi => ?_
  rw [getLsbD_tbCtrlWord _ _ _ hi, source, BitVec.getLsbD_and, mask i hi, BitVec.getLsbD_setWidth]
  unfold bit
  grind

/-- A read of TB_CTRL returns the run state, the source and the prescale (R6). -/
theorem readWord_tbCtrl (s : State) : readWord s 0x01 =
    tbCtrlWord s.timebase.running s.timebase.source s.timebase.prescaleField := rfl

/-- Settles O15: the table of R6 by the run state, and the TB_CTRL word's fields both ways. -/
theorem timebaseControlWrites : Obligations.TimebaseControlWrites := by
  intro s x p
  refine ⟨fun stopped => ⟨?_, ?_⟩, fun running same => ⟨?_, ?_⟩, fun running other => ⟨?_, ?_⟩, ?_, ?_, ?_,
    fun v stopped => ⟨_, rfl, ?_⟩⟩
  · exact congrArg _ (writeTbCtrl_of_stopped stopped true x p)
  · refine (congrArg _ (writeTbCtrl_of_stopped stopped false x p)).trans ?_
    simp [withTimebase, stopped]
  · obtain ⟨rfl, rfl⟩ := same
    exact congrArg _ (writeTbCtrl_of_running running true)
  · obtain ⟨rfl, rfl⟩ := same
    exact congrArg _ (writeTbCtrl_of_running running false)
  · exact congrArg _ (writeTbCtrl_refused running other true)
  · exact congrArg _ (writeTbCtrl_refused running other false)
  · exact congrArg _ (writeTbCtrlWord_tbCtrlWord true x p s)
  · exact congrArg _ (writeTbCtrlWord_tbCtrlWord false x p s)
  · exact toNat_tbCtrlWord _ _ _
  · rw [writeTbCtrlWord, writeTbCtrl_of_stopped stopped, readWord_tbCtrl]
    exact tbCtrlWord_fields v

end Sys2Proof.Machine
end

section
/-! Chapter Output Lines and Interlocked Pairs: the line unit's answers to action requests (R71 to R74).

One equation per case of the tables of R72 and R73, each under its own case and the failure of the cases
before it; R74 then says which of the two tables answers a TOGGLE. -/

namespace Sys2Proof.Machine

variable {s : State} {l : Fin 16}

/-! ## The state that an answer leaves -/

/-- The state with another intended level of a line and another record of its pair. -/
def setLineAndPair (l : Fin 16) (a : Bool) (q : Pair) (s : State) : State :=
  setPair (pairOf l) q (setActive l a s)

theorem setLineAndPair_eq (l : Fin 16) (a : Bool) (q : Pair) (s : State) :
    setLineAndPair l a q s =
      { s with lines :=
        { lines := s.lines.lines.set l { s.lines.lines[l] with active := a }
          pairs := s.lines.pairs.set (pairOf l) q } } := rfl

/-- A new intended level alone leaves the pair's record standing. -/
theorem setActive_eq_setLineAndPair (l : Fin 16) (a : Bool) (s : State) :
    setActive l a s = setLineAndPair l a s.lines.pairs[pairOf l] s := by
  have same : s.lines.pairs.set (pairOf l) s.lines.pairs[pairOf l] = s.lines.pairs :=
    Vector.set_getElem_self _
  rw [setLineAndPair_eq, same]
  rfl

/-! ## Activations (R72) -/

theorem activate_of_active (active : s.lines.lines[l].active = true) : activate l s = (.applied, s) :=
  if_pos active

section
variable (inactive : ¬ s.lines.lines[l].active = true)
include inactive

theorem activate_of_deferred (deferred : deferredOn s.lines.pairs[pairOf l] (sideOf l) = true) :
    activate l s = (.deferred, s) :=
  (if_neg inactive).trans (if_pos deferred)

variable (free : ¬ deferredOn s.lines.pairs[pairOf l] (sideOf l) = true)
include free

theorem activate_of_partner_taken
    (taken : s.lines.lines[partnerOf l].active = true ∨
      deferredOn s.lines.pairs[pairOf l] (otherSide (sideOf l)) = true) :
    activate l s = (.blocked, s) :=
  (if_neg inactive).trans <| (if_neg free).trans <| if_pos (Bool.or_eq_true_iff.2 taken)

variable (partnerInactive : ¬ s.lines.lines[partnerOf l].active = true)
  (partnerFree : ¬ deferredOn s.lines.pairs[pairOf l] (otherSide (sideOf l)) = true)
include partnerInactive partnerFree

/-- With the first three cases of R72 ruled out, the pair's guard decides. -/
theorem activate_of_partner_free :
    activate l s =
      match s.lines.pairs[pairOf l].running with
      | some w =>
        if w.side = otherSide (sideOf l) then
          (.deferred, setPair (pairOf l)
            { s.lines.pairs[pairOf l] with deferral := some { side := sideOf l, endTime := w.endTime } } s)
        else (.applied, setLineAndPair l true { s.lines.pairs[pairOf l] with running := none } s)
      | none => (.applied, setActive l true s) :=
  (if_neg inactive).trans <| (if_neg free).trans <| if_neg fun taken =>
    (Bool.or_eq_true_iff.1 taken).elim partnerInactive partnerFree

/-- The guard of the partner defers the activation to the guard's end. -/
theorem activate_of_partner_guard {w : PairWait} (guard : s.lines.pairs[pairOf l].running = some w)
    (partner : w.side = otherSide (sideOf l)) :
    activate l s = (.deferred, setPair (pairOf l)
      { s.lines.pairs[pairOf l] with deferral := some { side := sideOf l, endTime := w.endTime } } s) := by
  rw [activate_of_partner_free inactive free partnerInactive partnerFree, guard]
  exact if_pos partner

/-- The last case of R72: an IDLE pair, or the line's own guard, which ends. -/
theorem activate_of_no_partner_guard
    (own : ∀ w, s.lines.pairs[pairOf l].running = some w → w.side = sideOf l) :
    activate l s =
      (.applied, setLineAndPair l true { s.lines.pairs[pairOf l] with running := none } s) := by
  rw [activate_of_partner_free inactive free partnerInactive partnerFree]
  cases guard : s.lines.pairs[pairOf l].running with
  | none =>
    have idle : { s.lines.pairs[pairOf l] with running := none } = s.lines.pairs[pairOf l] := by
      rw [← guard]
    rw [idle, ← setActive_eq_setLineAndPair]
  | some w =>
    have other : ¬ w.side = otherSide (sideOf l) := by
      rw [own w guard]
      exact (otherSide_ne _).symm
    exact if_neg other

end

/-! ## Deactivations (R73) -/

theorem deactivate_of_deferred (deferred : deferredOn s.lines.pairs[pairOf l] (sideOf l) = true) :
    deactivate l s = setPair (pairOf l) { s.lines.pairs[pairOf l] with deferral := none } s :=
  if_pos deferred

section
variable (free : ¬ deferredOn s.lines.pairs[pairOf l] (sideOf l) = true)
include free

/-- The guard of an ACTIVE line starts, to end the pair's guard ticks from now. -/
theorem deactivate_of_guard (active : s.lines.lines[l].active = true)
    (guard : 1 ≤ s.lines.pairs[pairOf l].guardTicks) :
    deactivate l s = setLineAndPair l false
      { s.lines.pairs[pairOf l] with
        running := some
          { side := sideOf l, endTime := s.timebase.time + ticks s.lines.pairs[pairOf l].guardTicks } } s :=
  (if_neg free).trans <| (if_pos active).trans <| if_neg (Nat.one_le_iff_ne_zero.1 guard)

theorem deactivate_of_no_guard (active : s.lines.lines[l].active = true)
    (guard : s.lines.pairs[pairOf l].guardTicks = 0) : deactivate l s = setActive l false s :=
  (if_neg free).trans <| (if_pos active).trans <| if_pos guard

theorem deactivate_of_inactive (inactive : ¬ s.lines.lines[l].active = true) : deactivate l s = s :=
  (if_neg free).trans (if_neg inactive)

end

/-! ## Requests -/

/-- With the interlock off, a TOGGLE flips the intended level (R71, R74). -/
theorem request_toggle_of_off (off : s.lines.pairs[pairOf l].interlock = false) :
    request l .toggle s = (.applied, setActive l (!s.lines.lines[l].active) s) :=
  if_neg (ne_true_of_eq_false off)

section
variable (on : s.lines.pairs[pairOf l].interlock = true)
include on

theorem request_active : request l .active s = activate l s := if_pos on

theorem request_inactive : request l .inactive s = (.applied, deactivate l s) := if_pos on

/-- A TOGGLE takes an ACTIVE or deferred line down (R74). -/
theorem request_toggle_of_up
    (up : s.lines.lines[l].active = true ∨ deferredOn s.lines.pairs[pairOf l] (sideOf l) = true) :
    request l .toggle s = (.applied, deactivate l s) :=
  (if_pos on).trans <| if_pos (Bool.or_eq_true_iff.2 up)

/-- A TOGGLE brings any other line up (R74). -/
theorem request_toggle_of_down (inactive : ¬ s.lines.lines[l].active = true)
    (free : ¬ deferredOn s.lines.pairs[pairOf l] (sideOf l) = true) :
    request l .toggle s = activate l s :=
  (if_pos on).trans <| if_neg fun up => (Bool.or_eq_true_iff.1 up).elim inactive free

end

/-- Settles O46: the cases of R72 and R73 in order, and the three of R74. -/
theorem interlockedRequestTable : Obligations.InterlockedRequestTable := by
  intro s x
  simp only [← deferredOn_iff, ← setLineAndPair_eq]
  refine ⟨fun off => ?toggleOff, fun on => ?interlocked⟩
  case toggleOff => rw [request_toggle_of_off off, setActive_eq_setLineAndPair]
  case interlocked =>
    rw [request_active on, request_inactive on]
    refine ⟨activate_of_active, activate_of_deferred, activate_of_partner_taken,
      fun _ inactive free partnerInactive partnerFree =>
        activate_of_partner_guard inactive free partnerInactive partnerFree,
      activate_of_no_partner_guard,
      fun deferred => congrArg _ (deactivate_of_deferred deferred),
      fun free active guard => congrArg _ (deactivate_of_guard free active guard),
      fun free active noGuard => congrArg _ ?noGuard,
      fun free inactive => congrArg _ (deactivate_of_inactive free inactive),
      request_toggle_of_up on, request_toggle_of_down on⟩
    case noGuard => rw [deactivate_of_no_guard free active noGuard, setActive_eq_setLineAndPair]

end Sys2Proof.Machine
end

section
/-! Chapter Input Lines and the Capture Queue: the statistics register of the capture queue (R119).

CAP_STAT holds two numbers in one byte each. An overflow and a write of the register both reach the lost
counter, and only the overflow reaches CAP_LOST; so their order settles the counter and not the flag. -/

namespace Sys2Proof.Machine

variable {s : State}

/-! ## A word of two byte fields -/

/-- A field that fits above its place reads back as its number times the place's weight. -/
theorem toNat_fieldWord {x n : Nat} (fits : x * 2 ^ n < 2 ^ 16) : (fieldWord x n).toNat = x * 2 ^ n :=
  (BitVec.toNat_ofNat _ _).trans (Nat.mod_eq_of_lt fits)

/-- Two numbers in a byte each, as CAP_STAT, RPT_STAT and REACT_STAT hold them: the bytes do not overlap. -/
theorem toNat_numWord_or_fieldWord {low high : Nat} (hl : low < 256) (hh : high < 256) :
    (numWord low ||| fieldWord high 8).toNat = low + 256 * high := by
  have lowByte : (numWord low).toNat = low := (toNat_fieldWord (by omega)).trans (Nat.mul_one low)
  have highByte : (fieldWord high 8).toNat = 2 ^ 8 * high := by rw [toNat_fieldWord (by omega), Nat.mul_comm]
  calc (numWord low ||| fieldWord high 8).toNat
      = 2 ^ 8 * high ||| low := by rw [BitVec.toNat_or, lowByte, highByte, Nat.or_comm]
    _ = 2 ^ 8 * high + low := (Nat.two_pow_add_eq_or_of_lt hl high).symm
    _ = low + 256 * high := Nat.add_comm _ _

/-! ## CAP_STAT -/

/-- A read of CAP_STAT returns the number of records and, above it, the lost counter (R119). -/
theorem readWord_capStat (s : State) :
    readWord s 0x4A = numWord s.capture.queue.length ||| fieldWord s.capture.lost 8 := rfl

/-- Both counts of CAP_STAT fit their byte (R116, R117). -/
theorem CapacityInv.captureStatistics_lt (inv : CapacityInv s) :
    s.capture.queue.length < 256 ∧ s.capture.lost < 256 :=
  ⟨inv.captures.trans_lt (by decide), inv.captureLost.trans_lt (by decide)⟩

/-- A write of CAP_STAT clears the lost counter and nothing else (R119). -/
theorem writeCapStat_eq (s : State) :
    writeCapStat s = { s with capture := { s.capture with lost := 0 } } := rfl

/-- The command CAP_STAT_WRITE is that write (R119). -/
theorem exec_capStatWrite (s : State) :
    exec .capStatWrite s = .next { s with capture := { s.capture with lost := 0 } } :=
  congrArg Host.Outcome.next (writeCapStat_eq s)

/-- A register write at 0x4A is the write of CAP_STAT, whatever its value (R119, R192). -/
theorem exec_registerWrite_capStat (v : Word) (s : State) :
    exec (.registerWrite 0x4A v) s = exec .capStatWrite s := rfl

/-! ## Overflow -/

/-- A capture offered to a full queue is counted and flagged, and the queue stands (R117). -/
theorem offerCapture_of_full (full : s.capture.queue.length = 32) (n : Fin 8) (e : Edge) (time : Time)
    (filtered : Bool) :
    offerCapture n e time filtered s = { s with
      capture := { s.capture with seq := s.capture.seq + 1, lost := min 255 (s.capture.lost + 1) }
      irq := { s.irq with flags := { s.irq.flags with capLost := true } } } := by
  obtain ⟨room, -⟩ | ⟨-, lost⟩ := offerCapture_cases n e time filtered s
  · omega
  · exact lost

/-- Settles O54: in both orders the write alone clears the counter and the overflow alone raises it and sets
the flag. -/
theorem captureStatistics : Obligations.CaptureStatistics := by
  refine ⟨fun s inv => ?read, fun s v => ⟨exec_capStatWrite s, exec_registerWrite_capStat v s⟩,
    fun s n e time filtered full => ?orders⟩
  case read =>
    obtain ⟨records, lost⟩ := inv.captureStatistics_lt
    rw [readWord_capStat]
    exact toNat_numWord_or_fieldWord records lost
  case orders =>
    have fullAfterWrite : (writeCapStat s).capture.queue.length = 32 := full
    rw [offerCapture_of_full full, offerCapture_of_full fullAfterWrite, writeCapStat_eq, writeCapStat_eq]
    exact ⟨rfl, rfl, rfl, rfl, rfl, rfl⟩

end Sys2Proof.Machine
end

section
/-! Chapter Register Window and Interrupt: the STATUS levels (R197), IRQ# and its enables (R198).

Both rest on which bit of a word holds what. IRQ_EN is reached by its own write and by device reset alone: no
task of a service changes it, so no part of a service does. -/

namespace Sys2Proof.Machine

variable {s : State}

/-! ## Words with fields -/

/-- A number in a field leaves the bits below its place clear. -/
theorem getLsbD_fieldWord_of_lt (x : Nat) {n i : Nat} (h : i < n) : (fieldWord x n).getLsbD i = false := by
  rw [fieldWord, BitVec.getLsbD_ofNat, Nat.testBit_mul_two_pow, decide_eq_false h.not_ge]
  simp

/-- Two words overlap exactly where some bit is set in both. -/
theorem and_ne_zero_iff (v w : Word) : v &&& w ≠ 0 ↔ ∃ i, v.getLsbD i = true ∧ w.getLsbD i = true := by
  refine ⟨fun overlap => ?_, ?_⟩
  · by_contra apart
    refine overlap (BitVec.eq_of_getLsbD_eq fun i _ => ?_)
    have notBoth : ¬ (v.getLsbD i = true ∧ w.getLsbD i = true) := fun both => apart ⟨i, both⟩
    simpa using notBoth
  · rintro ⟨i, hv, hw⟩ zero
    have clear : (v &&& w).getLsbD i = false := by simp [zero]
    simp [hv, hw] at clear

/-! ## STATUS -/

/-- A read of STATUS returns the levels as they stand (R197). -/
theorem readWord_status (s : State) : readWord s 0x06 = statusWord s := rfl

/-- The bits of STATUS below the batch state are the four levels (R197). -/
theorem getLsbD_statusWord (s : State) {i : Nat} (h : i < 4) :
    (statusWord s).getLsbD i =
      ((capReady s && decide (0 = i)) || (rptReady s && decide (1 = i)) ||
        (s.port.waiting && decide (2 = i)) || (s.timebase.running && decide (3 = i))) := by
  have word : i < 16 := by omega
  simp only [statusWord, BitVec.getLsbD_or, getLsbD_bitWord _ _ word, getLsbD_fieldWord_of_lt _ h,
    Bool.or_false]

theorem statusWord_capReady (s : State) : (statusWord s).getLsbD 0 = capReady s :=
  (getLsbD_statusWord s (by decide)).trans (by simp)

theorem statusWord_rptReady (s : State) : (statusWord s).getLsbD 1 = rptReady s :=
  (getLsbD_statusWord s (by decide)).trans (by simp)

theorem statusWord_waiting (s : State) : (statusWord s).getLsbD 2 = s.port.waiting :=
  (getLsbD_statusWord s (by decide)).trans (by simp)

theorem statusWord_running (s : State) : (statusWord s).getLsbD 3 = s.timebase.running :=
  (getLsbD_statusWord s (by decide)).trans (by simp)

theorem batchStateCode_lt (b : BatchState) : batchStateCode b < 8 := by cases b <;> decide

/-- The batch state's code stands directly above the four levels, which fit the bits below it (R197). -/
theorem toNat_statusWord (s : State) :
    ∃ levels < 16, (statusWord s).toNat = levels + 16 * batchStateCode s.batch.state := by
  have levels_lt : ∀ c r w t : Bool,
      (bitWord c 0 ||| bitWord r 1 ||| bitWord w 2 ||| bitWord t 3).toNat < 2 ^ 4 := by decide
  have code := batchStateCode_lt s.batch.state
  refine ⟨_, levels_lt (capReady s) (rptReady s) s.port.waiting s.timebase.running, ?_⟩
  rw [statusWord, BitVec.toNat_or, toNat_fieldWord (by omega), Nat.mul_comm, Nat.or_comm,
    ← Nat.two_pow_add_eq_or_of_lt (levels_lt _ _ _ _), Nat.add_comm]

/-- STATUS is read-only (R192, R197). -/
theorem exec_registerWrite_status (v : Word) (s : State) :
    exec (.registerWrite 0x06 v) s = .next (refusedWrite .readOnly 0x06 s) := rfl

/-- Settles O12: the levels bit by bit, and the batch state's code above them. -/
theorem statusLevels : Obligations.StatusLevels := by
  intro s
  obtain ⟨levels, below, number⟩ := toNat_statusWord s
  have code := batchStateCode_lt s.batch.state
  simp only [readWord_status]
  refine ⟨?capReady, ?rptReady, statusWord_waiting s, statusWord_running s, ?batch, by omega,
    fun v => exec_registerWrite_status v s⟩
  case capReady => rw [statusWord_capReady, capReady, decide_eq_true_eq]
  case rptReady => rw [statusWord_rptReady, rptReady, decide_eq_true_eq]
  case batch =>
    have field : (statusWord s).toNat / 16 % 8 = batchStateCode s.batch.state := by omega
    rw [field]
    cases s.batch.state <;> rfl

/-! ## FLAGS and IRQ# -/

/-- A read of FLAGS returns the flags in their places (R196). -/
theorem readWord_flags (s : State) : readWord s 0x04 = flagsWord s.irq.flags := rfl

/-- A read of IRQ_EN returns the enables (R198). -/
theorem readWord_irqEn (s : State) : readWord s 0x05 = s.irq.enable := rfl

/-- Each flag stands at its bit of the table of R196. -/
theorem getLsbD_flagsWord (f : Flags) (n : Fin 11) : (flagsWord f).getLsbD n.val = flagAt f n := by
  have word : n.val < 16 := by omega
  simp only [flagsWord, BitVec.getLsbD_or, getLsbD_bitWord _ _ word]
  fin_cases n <;> simp [flagAt]

/-- FLAGS holds nothing above bit 10 (R196). -/
theorem le_of_getLsbD_flagsWord {f : Flags} {i : Nat} (isSet : (flagsWord f).getLsbD i = true) : i ≤ 10 := by
  have word : i < 16 := BitVec.lt_of_getLsbD isSet
  simp only [flagsWord, BitVec.getLsbD_or, getLsbD_bitWord _ _ word, Bool.or_eq_true, Bool.and_eq_true,
    decide_eq_true_eq] at isSet
  omega

/-- Some enabled flag is set exactly when some bit of FLAGS is set with its enable (R198). -/
theorem flagsWord_and_ne_zero_iff (f : Flags) (enable : Word) :
    flagsWord f &&& enable ≠ 0 ↔
      ∃ n, n ≤ 10 ∧ (flagsWord f).getLsbD n = true ∧ enable.getLsbD n = true := by
  rw [and_ne_zero_iff]
  exact exists_congr fun n =>
    ⟨fun ⟨isSet, enabled⟩ => ⟨le_of_getLsbD_flagsWord isSet, isSet, enabled⟩, And.right⟩

/-- The three sources of IRQ# (R198). -/
theorem irqLow_iff (s : State) : irqLow s = true ↔
    (flagsWord s.irq.flags &&& s.irq.enable ≠ 0) ∨
    (capReady s = true ∧ s.irq.enable.getLsbD 12 = true) ∨
    (rptReady s = true ∧ s.irq.enable.getLsbD 13 = true) := by
  simp only [irqLow, bit, Bool.or_eq_true, Bool.and_eq_true, bne_iff_ne, or_assoc]

/-- With nothing enabled IRQ# is released (R198). -/
theorem irqLow_of_enable_eq_zero (nothing : s.irq.enable = 0) : irqLow s = false := by
  simp [irqLow, bit, nothing]

/-! ## IRQ_EN -/

/-- A write of IRQ_EN is taken in every state (R198). -/
theorem exec_irqEnWrite (v : Word) (s : State) :
    exec (.irqEnWrite v) s = .next { s with irq := { s.irq with enable := v &&& 0x37FF } } := rfl

theorem exec_deviceReset (s : State) : exec .deviceReset s = .next (deviceReset s) := rfl

theorem exec_engineResetService (part : ServicePart) (s : State) :
    exec (.engineResetService part) s = .next (serviceRow part .host (servesCommand 0x3F) s) := rfl

/-- Device reset clears every enable (R198). -/
theorem deviceReset_enable (s : State) : (deviceReset s).irq.enable = 0 := rfl

/-- No task of a service reaches the enables: the tasks that reach the interrupt unit set or clear flags
(R196, R198). -/
theorem runTask_enable (k : Task) (s : State) : (runTask k s).1.irq.enable = s.irq.enable := by
  cases k with
  | request l r record => exact congrArg InterruptUnit.enable (request_irq l r s)
  | offer r =>
    obtain ⟨-, e⟩ | ⟨-, e⟩ := offerReport_cases r s <;> exact congrArg (·.irq.enable) e
  | allocated free =>
    simp only [runTask]
    split <;> rfl
  | acted h => exact congrArg InterruptUnit.enable (boundaryAct_irq h s)
  | gone h =>
    simp only [runTask, boundaryGone]
    split <;> rfl
  | purged g n => rfl
  | resetMoment => rfl
  | endBatch e => rfl
  | complete code words => rfl

theorem runTasks_enable (ks : List Task) (s : State) : (runTasks ks s).irq.enable = s.irq.enable :=
  runTasks_inv (P := fun t => t.irq.enable = s.irq.enable) (fun k t h => (runTask_enable k t).trans h) ks rfl

theorem advance_enable (v : Service) (s : State) : (advance v s).irq.enable = s.irq.enable := by
  obtain ⟨-, e⟩ | ⟨k, ks, -, -, e⟩ | ⟨k, ks, -, -, e⟩ := advance_cases v s <;> rw [e]
  · rw [endService_irq]
  · rw [endService_irq, runTask_enable]
  · rw [serving_irq, runTask_enable]

theorem finish_enable (v : Service) (s : State) : (finish v s).irq.enable = s.irq.enable := by
  rw [finish, endService_irq, runTasks_enable]

/-- No part of an agenda service reaches the enables (R198). -/
theorem serviceRow_enable (part : ServicePart) (c : Claim) (serves : Service → State → Bool) (s : State) :
    (serviceRow part c serves s).irq.enable = s.irq.enable := by
  obtain e | ⟨-, -, e | e⟩ | ⟨v, -, -, -, e | e⟩ := serviceRow_cases part c serves s <;> rw [e]
  · rw [granted_irq]
  · rw [finish_enable, granted_irq]
  · exact advance_enable v s
  · exact finish_enable v s

/-! ## The service of ENGINE_RESET -/

/-- The host's command granted and served with nothing between (R52, R53, R58). -/
theorem serviceRow_whole_of_hostGranted {code : Word} (grant : hostGranted code s) :
    serviceRow .whole .host (servesCommand code) s = finish (serviceFor .host s) (granted .host s) := by
  obtain ⟨next, cmd⟩ := grant
  exact if_pos (by simp [grantable, servesCommand, next, cmd])

/-- The service of ENGINE_RESET asks for the reset moment, then for the completion with OK (R49, R185). -/
theorem serviceFor_host_todo_of_engineReset (cmd : s.port.cmd = 0x3F) :
    (serviceFor .host s).todo = [.resetMoment, .complete .ok []] := by
  simp [serviceFor, takenBy, plan, hostPlan, cmd, engineResetPlan]

/-- The whole service of ENGINE_RESET: the reset moment, the completion with OK, the end (R49, R59, R185). -/
theorem exec_engineResetService_whole (grant : hostGranted 0x3F s) :
    exec (.engineResetService .whole) s = .next
      (endService (serviceFor .host s) (complete .ok [] (engineReset (granted .host s)))) := by
  obtain ⟨next, cmd⟩ := grant
  rw [exec_engineResetService, serviceRow_whole_of_hostGranted ⟨next, cmd⟩, finish,
    serviceFor_host_todo_of_engineReset cmd]
  rfl

/-- The reset moment empties both queues and clears every flag but TRIP0..TRIP3 (R123, R170, R196). -/
theorem engineReset_queues_and_flags (s : State) :
    (engineReset s).capture.queue = [] ∧ (engineReset s).reports.queue = [] ∧
    (engineReset s).irq.flags = { noFlags with trip := s.irq.flags.trip } := ⟨rfl, rfl, rfl⟩

/-- Settles O11: the sources of IRQ# bit by bit; no task of a service reaches IRQ_EN; and the reset moment
comes before the completion that sets CMD_DONE. -/
theorem irqLineFollowsEnabledSources : Obligations.IrqLineFollowsEnabledSources := by
  refine ⟨fun s => ?sources, fun s => ⟨getLsbD_flagsWord s.irq.flags, readWord_irqEn s⟩,
    fun v s => exec_irqEnWrite s v, fun s t reset => ?deviceReset, fun part s t served => ?enableKept,
    fun s t grant served => ?engineReset⟩
  case sources =>
    rw [readWord_flags, readWord_irqEn, readWord_status, statusWord_capReady, statusWord_rptReady,
      irqLow_iff, flagsWord_and_ne_zero_iff]
  case deviceReset =>
    rw [exec_deviceReset] at reset
    cases reset
    exact ⟨deviceReset_enable s, irqLow_of_enable_eq_zero (deviceReset_enable s)⟩
  case enableKept =>
    rw [exec_engineResetService] at served
    cases served
    exact serviceRow_enable part .host _ s
  case engineReset =>
    rw [exec_engineResetService_whole grant] at served
    cases served
    obtain ⟨captures, reports, flags⟩ := engineReset_queues_and_flags (granted .host s)
    simp [captures, reports, flags]

end Sys2Proof.Machine
end

section
/-! The elementary changes of the part. `Move s t` is one of them, and every step is a chain of moves, the
acceptance of a CMD write, or the device reset (`exec_cases`, `clockPeriod_moves`). What each of the three
keeps, every step keeps (`step_inv`): the invariants of the chapters are settled by it. -/

-- Each lemma waits for the ones before it: elaborated side by side they hold a thread each.
set_option Elab.async false

namespace Sys2Proof.Machine

variable {s t u : State}

/-! ## Elementary changes -/

/-- One elementary change of the state. Acceptance of a CMD write and device reset are not among them. -/
inductive Move : State → State → Prop where
  /-- flags, REJECT, enables, pins and the read data -/
  | quiet {s t : State} (h : Keeps [.irq, .pins, .dataOut] s t) : Move s t
  /-- a write of a register, taken or refused -/
  | register {r : Register} (h : r ≠ .cmd) (v : Word) (s : State) : Move s (writeRegister r v s)
  | timeRead (s : State) : Move s (readTimeLo s)
  | tick (s : State) : Move s (advanceTime s)
  /-- a source event that completes no tick interval -/
  | count {s : State} (h : tickDue s.timebase = false) :
    Move s (withTimebase { s.timebase with phase := s.timebase.phase + 1 } s)
  | guardEnd (p : Fin 8) (s : State) : Move s (guardEndIfReached p s)
  | trip (g : Fin 4) (c : Cause) (s : State) : Move s (tripRequest g c s)
  | samplePhase {s : State} {k : Nat} (h : 1 ≤ s.capture.filterInt → k < s.capture.filterInt) :
    Move s (withCapture { s.capture with samplePhase := k } s)
  /-- a sample of an input, or its settling -/
  | input {s : State} {n : Fin 8} {i : Input} (h : inputOk s.capture.inputs[n] → inputOk i) :
    Move s (setInput n i s)
  | capture (n : Fin 8) (e : Edge) (x : Time) (f : Bool) (s : State) : Move s (offerCapture n e x f s)
  /-- an ARMED row takes a match -/
  | matched {s : State} {k : Fin 16} (h : s.reactions.rows[k].state = .armed) (x : Time) :
    Move s (setRow k (matchedRow s.reactions.rows[k] x) s)
  /-- the record of a row that is not OFF and of its kind is offered to the FIFO -/
  | reaction {s : State} {k : Fin 16} {p : PendingKind} (h : s.reactions.rows[k].state ≠ .off)
    (kind : p = .schedule → s.reactions.rows[k].kind = .schedule) (x : Time) :
    Move s (offerReaction (pendingRecord k p s.reactions.rows[k] x) s)
  | held (h : Held) (s : State) : Move s (heldAnswer h s)
  | grant {c : Claim} {s : State} (h : nextClaim s = some c) : Move s (granted c s)
  | advance {v : Service} {s : State} (h : s.arbiter.activity = some v) : Move s (advance v s)
  | firstRequest (s : State) : Move s (firstRequest s)

/-- A chain of elementary changes. -/
abbrev Moves : State → State → Prop := Relation.ReflTransGen Move

theorem Move.moves (h : Move s t) : Moves s t := Relation.ReflTransGen.single h

theorem Moves.refl (s : State) : Moves s s := Relation.ReflTransGen.refl

theorem Keeps.moves {bs : List Block} (h : Keeps bs s t)
    (hb : ∀ b ∈ bs, b ∈ [Block.irq, .pins, .dataOut] := by decide) : Moves s t :=
  (Move.quiet (h.mono hb)).moves

/-- What every elementary change keeps, a chain of them keeps. -/
theorem Moves.inv {P : State → Prop} (step : ∀ s t, Move s t → P s → P t) (h : Moves s t) (p : P s) : P t := by
  induction h with
  | refl => exact p
  | tail _ m ih => exact step _ _ m ih

/-- A fold of chains is a chain. -/
theorem Moves.foldl {α : Type} {f : State → α → State} (h : ∀ s a, Moves s (f s a)) (l : List α)
    (s : State) : Moves s (l.foldl f s) := by
  induction l generalizing s with
  | nil => exact .refl s
  | cons a l ih => exact (h s a).trans (ih _)

/-! ## Time -/

theorem writeTbCtrl_moves (run : Bool) (x : TickSource) (p : BitVec 8) (s : State) :
    Moves s (writeTbCtrl run x p s) := by
  rw [← writeTbCtrlWord_tbCtrlWord]
  exact (Move.register (r := .tbCtrl) (by decide) _ s).moves

theorem countSourceEvent_moves (x : TickSource) (s : State) : Moves s (countSourceEvent x s) := by
  unfold countSourceEvent
  split
  · split
    · exact (Move.tick s).moves
    · rename_i h
      exact (Move.count (by simpa using h)).moves
  · exact .refl s

theorem endReachedGuards_moves (s : State) : Moves s (endReachedGuards s) :=
  Moves.foldl (fun t p => (Move.guardEnd p t).moves) _ s

theorem clockTimebase_moves (s : State) : Moves s (clockTimebase s) := by
  have internal : Moves s (countSourceEvent .internal (sampleTclk s).1) :=
    (withPins_keeps _ s).moves.trans (countSourceEvent_moves _ _)
  unfold clockTimebase
  dsimp only
  split
  · exact (internal.trans (countSourceEvent_moves _ _)).trans (endReachedGuards_moves _)
  · exact internal.trans (endReachedGuards_moves _)

/-! ## Trips -/

theorem tripMask_moves (m : Nat) (c : Cause) (s : State) : Moves s (tripMask m c s) := by
  refine Moves.foldl (fun t g => ?_) _ s
  split
  · exact (Move.trip g c t).moves
  · exact .refl t

theorem pinTrip_moves (pin : Fin 2) (s : State) : Moves s (pinTrip pin s) := by
  refine Moves.foldl (fun t g => ?_) _ s
  split
  · exact .refl t
  · exact (Move.trip g _ t).moves
  · exact (Move.trip g _ t).moves

theorem sampleTripPin_moves (pin : Fin 2) (s : State) : Moves s (sampleTripPin pin s) := by
  unfold sampleTripPin
  dsimp only
  split
  · exact (setTripSamples_keeps pin _ s).moves.trans (pinTrip_moves pin _)
  · exact (setTripSamples_keeps pin _ s).moves

/-! ## Samples, captures and matches -/

theorem answerMatch_moves {k : Fin 16} {r : Row} {x : Time} (h : r.state = .armed)
    (hr : s.reactions.rows[k] = matchedRow r x) : Moves s (answerMatch k r x s) := by
  have on : s.reactions.rows[k].state ≠ .off := by
    rw [hr, matchedRow, h]
    cases r.oneShot <;> simp
  have offer : ∀ p : PendingKind, (p = .schedule → r.kind = .schedule) →
      Moves s (offerReaction (pendingRecord k p r x) s) := by
    intro p kind
    have record : pendingRecord k p r x = pendingRecord k p s.reactions.rows[k] x := by rw [hr]; rfl
    rw [record]
    exact (Move.reaction on (by rw [hr]; exact kind) x).moves
  unfold answerMatch
  split
  · exact tripMask_moves _ _ s
  · rename_i kind
    exact offer _ fun _ => kind
  · exact offer _ fun n => by cases n

theorem compareRow_moves (n : Fin 8) (e : Edge) (x : Time) (s : State) (k : Fin 16) :
    Moves s (compareRow n e x s k) := by
  unfold compareRow
  dsimp only
  split
  · rename_i h
    have armed : s.reactions.rows[k].state = .armed := by
      simp only [rowMatches, Bool.and_eq_true, decide_eq_true_eq] at h
      exact h.1.1.1
    exact (Move.matched armed x).moves.trans (answerMatch_moves armed (by simp [setRow, withReactions]))
  · exact .refl s

theorem handOff_moves (n : Fin 8) (e : Edge) (x : Time) (s : State) : Moves s (handOff n e x s) :=
  Moves.foldl (compareRow_moves n e x) _ s

theorem acceptChange_moves (n : Fin 8) (level : Bool) (x : Time) (s : State) :
    Moves s (acceptChange n level x s) := by
  have settled : Moves s (setInput n { s.capture.inputs[n] with settled := level } s) :=
    (Move.input (by exact id)).moves
  have handed := settled.trans (handOff_moves n (edgeTo level) x _)
  unfold acceptChange
  dsimp only
  split
  · split
    · exact handed.trans (Move.capture _ _ _ _ _).moves
    · exact handed
  · exact settled

theorem sampleInput_moves (n : Fin 8) (level : Bool) (s : State) : Moves s (sampleInput n level s) := by
  have restart : inputOk s.capture.inputs[n] →
      inputOk { s.capture.inputs[n] with sampled := level, candidate := level, runCount := 0 } :=
    fun ok => ⟨ok.1, Nat.zero_le _, fun _ => rfl⟩
  unfold sampleInput
  dsimp only
  split
  · exact (Move.input (by exact id)).moves
  · split
    · split
      · exact (Move.input (by exact id)).moves
      · exact (Move.input restart).moves.trans (acceptChange_moves n level _ _)
    · exact (Move.input (by exact id)).moves

/-- A filtered input's run stays within its filter (R111). -/
theorem runAfter_ok {i : Input} (h : isFiltered i = true) (level : Bool) (now : Time) (ok : inputOk i) :
    inputOk (runAfter i level now) := by
  obtain ⟨filter, -, -⟩ := ok
  obtain ⟨enabled, filtered⟩ : i.enable = true ∧ i.filter ≠ 0 := by simpa [isFiltered] using h
  unfold runAfter
  split
  · exact ⟨filter, Nat.min_le_left _ _, fun off => by simp [enabled] at off⟩
  · exact ⟨filter, Nat.one_le_iff_ne_zero.2 filtered, fun off => by simp [enabled] at off⟩

theorem filterStep_moves {n : Fin 8} (h : isFiltered s.capture.inputs[n] = true) (level : Bool) :
    Moves s (filterStep n level s) := by
  have run := (Move.input (runAfter_ok h level s.timebase.time)).moves
  unfold filterStep
  dsimp only
  split
  · exact run.trans (acceptChange_moves n _ _ _)
  · exact run

theorem filterMoment_moves (levels : BitVec 8) (s : State) : Moves s (filterMoment levels s) := by
  refine (Move.samplePhase (k := 0) fun h => h).moves.trans (Moves.foldl (fun t n => ?_) _ _)
  split
  · rename_i h
    exact (setInputPin_keeps n _ t).moves.trans (filterStep_moves (by exact h) _)
  · exact .refl t

theorem clockInputs_moves (s : State) : Moves s (clockInputs s) := by
  have phase : 1 ≤ s.capture.filterInt →
      (if sampleMomentDue s.capture then 0 else s.capture.samplePhase + 1) < s.capture.filterInt := by
    intro h
    split
    · exact h
    · rename_i late
      simpa [sampleMomentDue] using late
  refine (Move.samplePhase phase).moves.trans (Moves.foldl (fun t n => ?_) _ _)
  split
  · rename_i h
    exact filterStep_moves (Bool.and_eq_true_iff.1 h).2 _
  · exact sampleInput_moves n _ t

/-! ## Services -/

/-- The next move of the service under way. -/
def Advances (s t : State) : Prop := ∃ v, s.arbiter.activity = some v ∧ t = advance v s

theorem Advances.move (h : Advances s t) : Move s t := by
  obtain ⟨v, hv, rfl⟩ := h
  exact .advance hv

/-- Tasks run as the service makes them: the first, and then the offer it brings before the others (R27). -/
theorem runTasks_cons (k : Task) (ks : List Task) (s : State) :
    runTasks (k :: ks) s = runTasks ((runTask k s).2 ++ ks) (runTask k s).1 := by
  have both : runTasks (k :: ks) s =
      runTasks ks ((runTask k s).2.foldl (fun u m => (runTask m u).1) (runTask k s).1) := rfl
  obtain e | ⟨r, e⟩ := runTask_more k s <;> rw [both, e] <;> rfl

theorem activate_withArbiter (l : Fin 16) (a : Arbiter) (s : State) :
    activate l (withArbiter a s) = ((activate l s).1, withArbiter a (activate l s).2) := by
  by_cases active : s.lines.lines[l].active = true
  · rw [activate_of_active active, activate_of_active (s := withArbiter a s) active]
  by_cases deferred : deferredOn s.lines.pairs[pairOf l] (sideOf l) = true
  · rw [activate_of_deferred active deferred, activate_of_deferred (s := withArbiter a s) active deferred]
  by_cases taken : s.lines.lines[partnerOf l].active = true ∨
      deferredOn s.lines.pairs[pairOf l] (otherSide (sideOf l)) = true
  · rw [activate_of_partner_taken active deferred taken,
      activate_of_partner_taken (s := withArbiter a s) active deferred taken]
  obtain ⟨partner, free⟩ := not_or.1 taken
  rw [activate_of_partner_free active deferred partner free,
    activate_of_partner_free (s := withArbiter a s) active deferred partner free]
  simp only [withArbiter_lines]
  cases s.lines.pairs[pairOf l].running with
  | none => rfl
  | some w => by_cases partners : w.side = otherSide (sideOf l) <;> simp only [partners, if_true, if_false] <;> rfl

theorem deactivate_withArbiter (l : Fin 16) (a : Arbiter) (s : State) :
    deactivate l (withArbiter a s) = withArbiter a (deactivate l s) := by
  by_cases deferred : deferredOn s.lines.pairs[pairOf l] (sideOf l) = true
  · rw [deactivate_of_deferred deferred, deactivate_of_deferred (s := withArbiter a s) deferred]
    rfl
  by_cases active : s.lines.lines[l].active = true
  · by_cases guard : s.lines.pairs[pairOf l].guardTicks = 0
    · rw [deactivate_of_no_guard deferred active guard,
        deactivate_of_no_guard (s := withArbiter a s) deferred active guard]
      rfl
    · have guard := Nat.one_le_iff_ne_zero.2 guard
      rw [deactivate_of_guard deferred active guard,
        deactivate_of_guard (s := withArbiter a s) deferred active guard]
      rfl
  · rw [deactivate_of_inactive deferred active,
      deactivate_of_inactive (s := withArbiter a s) deferred active]

/-- A request looks at the line unit and at TIME alone (R71 to R74). -/
theorem request_withArbiter (l : Fin 16) (r : Request) (a : Arbiter) (s : State) :
    request l r (withArbiter a s) = ((request l r s).1, withArbiter a (request l r s).2) := by
  unfold request
  simp only [withArbiter_lines, activate_withArbiter, deactivate_withArbiter]
  split
  · split
    · rfl
    · rfl
    · split <;> rfl
  · split <;> rfl

/-- What a task does, and what it brings, does not depend on the service under way (R53). -/
theorem runTask_serving (k : Task) (v : Service) (s : State) :
    runTask k (serving v s) = (serving v (runTask k s).1, (runTask k s).2) := by
  cases k with
  | request l r record =>
    simp only [runTask, serving, request_withArbiter, request_arbiter]
    rfl
  | offer r => simp only [runTask, offerReport, apply_ite (serving v)]; rfl
  | allocated n => simp only [runTask, apply_ite (serving v)]; rfl
  | acted h => simp only [runTask, boundaryAct, apply_ite (serving v)]; rfl
  | gone h => simp only [runTask, boundaryGone, apply_ite (serving v)]; rfl
  | purged | resetMoment | endBatch | complete => rfl

/-- The next move of a service with more to follow. -/
theorem advance_of_more {v : Service} {k : Task} {ks : List Task} (h : v.todo = k :: ks)
    (more : (runTask k s).2 ++ ks ≠ []) :
    advance v s = serving { v with todo := (runTask k s).2 ++ ks } (runTask k s).1 := by
  obtain ⟨e, -⟩ | ⟨m, ms, e, last, -⟩ | ⟨m, ms, e, -, eq⟩ := advance_cases v s <;> rw [h] at e <;> cases e
  · exact absurd last more
  · exact eq

/-- The last move of a service. -/
theorem advance_of_last {v : Service} {k : Task} {ks : List Task} (h : v.todo = k :: ks)
    (last : (runTask k s).2 ++ ks = []) : advance v s = endService v (runTask k s).1 := by
  obtain ⟨e, -⟩ | ⟨m, ms, e, -, eq⟩ | ⟨m, ms, e, more, -⟩ := advance_cases v s <;> rw [h] at e <;> cases e
  · exact eq
  · exact absurd last more

theorem serving_self {v : Service} (h : s.arbiter.activity = some v) : serving v s = s := by
  simp only [serving, ← h]
  rfl

/-- Where the moves behind the first one finish the service, so do all of them. -/
theorem advances_head {v : Service} {k : Task} {ks ms : List Task} {x : State}
    (more : (runTask k x).2 ++ ks = ms)
    (rest : ms ≠ [] → Relation.ReflTransGen Advances (serving { v with todo := ms } (runTask k x).1)
      (endService v (runTasks ms (runTask k x).1))) :
    Relation.ReflTransGen Advances (serving { v with todo := k :: ks } x)
      (endService v (runTasks (k :: ks) x)) := by
  have task := runTask_serving k { v with todo := k :: ks } x
  have first : Advances (serving { v with todo := k :: ks } x)
      (advance { v with todo := k :: ks } (serving { v with todo := k :: ks } x)) := ⟨_, rfl, rfl⟩
  rw [runTasks_cons, more]
  by_cases last : ms = []
  · rw [advance_of_last rfl (by rw [task]; exact more.trans last), task] at first
    subst last
    exact .single first
  · rw [advance_of_more rfl (by rw [task]; exact more ▸ last), task] at first
    simp only [more] at first
    exact .head first (rest last)

/-- The rest of a service under way is its next moves, one after the other (R53). -/
theorem finish_advances {v : Service} (h : s.arbiter.activity = some v) :
    Relation.ReflTransGen Advances s (finish v s) := by
  have all : ∀ (ks : List Task) (x : State), Relation.ReflTransGen Advances
      (serving { v with todo := ks } x) (endService v (runTasks ks x)) := by
    intro ks
    induction ks with
    | nil => exact fun x => .single ⟨_, rfl, rfl⟩
    | cons k ks ih =>
      intro x
      obtain e | ⟨r, e⟩ := runTask_more k x
      · exact advances_head (by rw [e]; rfl) fun _ => ih _
      · exact advances_head (by rw [e]; rfl) fun _ => advances_head (ms := ks) rfl fun _ => ih _
  have := all v.todo s
  rwa [show serving { v with todo := v.todo } s = s from serving_self h] at this

theorem finish_moves {v : Service} (h : s.arbiter.activity = some v) : Moves s (finish v s) :=
  (finish_advances h).lift id fun _ _ => Advances.move

theorem serviceRow_moves (part : ServicePart) (c : Claim) (serves : Service → State → Bool) (s : State) :
    Moves s (serviceRow part c serves s) := by
  rcases serviceRow_cases part c serves s with e | ⟨next, -, e | e⟩ | ⟨v, hv, -, -, e | e⟩ <;> rw [e]
  · exact (Move.grant next).moves
  · exact (Move.grant next).moves.trans (finish_moves rfl)
  · exact (Move.advance hv).moves
  · exact finish_moves hv

theorem arbiterMove_moves (s : State) : Moves s (arbiterMove s) := by
  have service : Moves s (match s.arbiter.activity with | some v => advance v s | none => s) := by
    split
    · rename_i v hv
      exact (Move.advance hv).moves
    · exact .refl s
  have answer : ∀ t, Moves t (answerAtEnd t) := by
    intro t
    unfold answerAtEnd
    split
    · exact (Move.held _ t).moves
    · exact .refl t
  have grant : ∀ t, Moves t (grantNext t) := by
    intro t
    rcases grantNext_cases t with ⟨-, e⟩ | ⟨c, next, e⟩ <;> rw [e]
    exact (Move.grant next).moves.trans (Move.firstRequest _).moves
  rw [arbiterMove_eq]
  exact (service.trans (answer _)).trans (grant _)

/-! ## Steps -/

theorem clockPeriod_moves (s : State) : Moves s (clockPeriod s) :=
  (clockTimebase_moves s).trans <| (sampleTripPin_moves 0 _).trans <| (sampleTripPin_moves 1 _).trans <|
    (clockInputs_moves _).trans (arbiterMove_moves _)

theorem tripPinFall_moves (pin : Fin 2) (s : State) :
    Moves s (if canFall pin s then pinTrip pin (setTripSamples pin fallSeen (setTripPin pin false s)) else s) := by
  split
  · exact ((setTripPin_keeps pin false s).moves.trans (setTripSamples_keeps pin _ _).moves).trans
      (pinTrip_moves pin _)
  · exact .refl s

theorem pinSample_moves (n : Fin 8) (level : Bool) (s : State) :
    Moves s (sampleInput n level (setInputPin n level s)) :=
  (setInputPin_keeps n level s).moves.trans (sampleInput_moves n level _)

theorem tick_moves (s : State) :
    Moves s (if s.timebase.running && tickDue s.timebase then advanceTime s else s) := by
  split
  · exact (Move.tick s).moves
  · exact .refl s

theorem register_moves {r : Register} (v : Word) (s : State) (h : r ≠ .cmd := by simp) :
    Moves s (writeRegister r v s) := (Move.register h v s).moves

/-- What a command does: a chain of elementary changes, the acceptance of a CMD write, or the device reset. -/
theorem exec_cases (c : Instr) (s : State) : ∃ t, exec c s = .next t ∧
    (Moves s t ∨ (∃ v, t = writeCmd v (judge v) s) ∨ (c = .deviceReset ∧ t = deviceReset s)) := by
  cases c with
  | deviceReset => exact ⟨_, rfl, .inr (.inr ⟨rfl, rfl⟩)⟩
  | insert => exact ⟨_, rfl, .inr (.inl ⟨0x01, rfl⟩)⟩
  | cancel => exact ⟨_, rfl, .inr (.inl ⟨0x02, rfl⟩)⟩
  | retime => exact ⟨_, rfl, .inr (.inl ⟨0x03, rfl⟩)⟩
  | cancelTag => exact ⟨_, rfl, .inr (.inl ⟨0x04, rfl⟩)⟩
  | query => exact ⟨_, rfl, .inr (.inl ⟨0x05, rfl⟩)⟩
  | head => exact ⟨_, rfl, .inr (.inl ⟨0x06, rfl⟩)⟩
  | engineReset => exact ⟨_, rfl, .inr (.inl ⟨0x3F, rfl⟩)⟩
  | badCommand v => exact ⟨_, rfl, .inr (.inl ⟨v, rfl⟩)⟩
  | lineSet => exact ⟨_, rfl, .inr (.inl ⟨0x08, rfl⟩)⟩
  | groupStart => exact ⟨_, rfl, .inr (.inl ⟨0x10, rfl⟩)⟩
  | groupStop => exact ⟨_, rfl, .inr (.inl ⟨0x11, rfl⟩)⟩
  | trip => exact ⟨_, rfl, .inr (.inl ⟨0x12, rfl⟩)⟩
  | release => exact ⟨_, rfl, .inr (.inl ⟨0x13, rfl⟩)⟩
  | batchInsert => exact ⟨_, rfl, .inr (.inl ⟨0x20, rfl⟩)⟩
  | batchCancel => exact ⟨_, rfl, .inr (.inl ⟨0x21, rfl⟩)⟩
  | batchRetime => exact ⟨_, rfl, .inr (.inl ⟨0x22, rfl⟩)⟩
  | batchCommit => exact ⟨_, rfl, .inr (.inl ⟨0x23, rfl⟩)⟩
  | batchDiscard => exact ⟨_, rfl, .inr (.inl ⟨0x24, rfl⟩)⟩
  | registerWrite a v =>
    by_cases e : registerAt a = .cmd
    · exact ⟨_, rfl, .inr (.inl ⟨v, by rw [writeWord, e]; rfl⟩)⟩
    · exact ⟨_, rfl, .inl (register_moves v s e)⟩
  | tick => exact ⟨_, rfl, .inl (tick_moves s)⟩
  | sourceEvent x => exact ⟨_, rfl, .inl (countSourceEvent_moves x s)⟩
  | start x p => exact ⟨_, rfl, .inl (writeTbCtrl_moves true x p s)⟩
  | stop x p => exact ⟨_, rfl, .inl (writeTbCtrl_moves false x p s)⟩
  | timeLoRead => exact ⟨_, rfl, .inl (Move.timeRead s).moves⟩
  | expiryService | insertService | cancelService | retimeService | cancelTagService | queryService
  | headService | engineResetService | purge | reactionSchedule | reactionCancelTag | batchApply =>
    exact ⟨_, rfl, .inl (serviceRow_moves _ _ _ s)⟩
  | commitEntryAnswer => exact ⟨_, rfl, .inl (Move.held _ s).moves⟩
  | heldBatchAnswer => exact ⟨_, rfl, .inl (Move.held _ s).moves⟩
  | tripPinFall pin => exact ⟨_, rfl, .inl (tripPinFall_moves pin s)⟩
  | tripPinRise pin => exact ⟨_, rfl, .inl (tripPinRise_keeps pin s).moves⟩
  | guardEnd p => exact ⟨_, rfl, .inl (Move.guardEnd p s).moves⟩
  | inputChange n level => exact ⟨_, rfl, .inl (pinSample_moves n level s)⟩
  | settledLevelFollowsPin n level => exact ⟨_, rfl, .inl (pinSample_moves n level s)⟩
  | filterSample levels => exact ⟨_, rfl, .inl (filterMoment_moves levels s)⟩
  | tbConfig v => exact ⟨_, rfl, .inl (register_moves (r := .tbCtrl) v s)⟩
  | timeHiWrite v => exact ⟨_, rfl, .inl (register_moves (r := .timeHi) v s)⟩
  | timeLoWrite v => exact ⟨_, rfl, .inl (register_moves (r := .timeLo) v s)⟩
  | parameterWrite k v => exact ⟨_, rfl, .inl (register_moves (r := .param k) v s)⟩
  | arm => exact ⟨_, rfl, .inl (register_moves (r := .row 0) 1 s)⟩
  | disarm => exact ⟨_, rfl, .inl (register_moves (r := .row 0) 2 s)⟩
  | rearm => exact ⟨_, rfl, .inl (register_moves (r := .row 0) 3 s)⟩
  | rowFieldWrite k v => exact ⟨_, rfl, .inl (register_moves (r := .row k) v s)⟩
  | lineCfgWrite l v => exact ⟨_, rfl, .inl (register_moves (r := .lineCfg l) v s)⟩
  | pairCfgWrite p v => exact ⟨_, rfl, .inl (register_moves (r := .pairCfg p) v s)⟩
  | groupCfgWrite g v => exact ⟨_, rfl, .inl (register_moves (r := .groupCfg g) v s)⟩
  | statusViewSelect g v => exact ⟨_, rfl, .inl (register_moves (r := .groupStat g) v s)⟩
  | inCfgWrite n v => exact ⟨_, rfl, .inl (register_moves (r := .inCfg n) v s)⟩
  | filterIntWrite v => exact ⟨_, rfl, .inl (register_moves (r := .filterInt) v s)⟩
  | capPop => exact ⟨_, rfl, .inl (register_moves (r := .capPop) 0 s)⟩
  | capStatWrite => exact ⟨_, rfl, .inl (register_moves (r := .capStat) 0 s)⟩
  | capThWrite v => exact ⟨_, rfl, .inl (register_moves (r := .capTh) v s)⟩
  | rptPop => exact ⟨_, rfl, .inl (register_moves (r := .rptPop) 0 s)⟩
  | rptStatWrite => exact ⟨_, rfl, .inl (register_moves (r := .rptStat) 0 s)⟩
  | rptThWrite v => exact ⟨_, rfl, .inl (register_moves (r := .rptTh) v s)⟩
  | reactStatWrite => exact ⟨_, rfl, .inl (register_moves (r := .reactStat) 0 s)⟩
  | flagsWrite v => exact ⟨_, rfl, .inl (register_moves (r := .flags) v s)⟩
  | irqEnWrite v => exact ⟨_, rfl, .inl (register_moves (r := .irqEn) v s)⟩

/-- What elementary changes, the acceptance of a command, the device reset and the queue's own move keep,
every step keeps. -/
theorem step_inv {P : State → Prop} (move : ∀ s t, Move s t → P s → P t)
    (command : ∀ v s, P s → P (writeCmd v (judge v) s)) (reset : ∀ s, P (deviceReset s))
    (queue : ∀ s q, P s → P { s with pending := q }) (p : P s) (h : step s = .next t) : P t := by
  unfold step at h
  split at h
  · obtain rfl := Host.Outcome.next.inj h
    exact (clockPeriod_moves s).inv move p
  · rename_i c rest _
    obtain ⟨u, e, moves | ⟨v, rfl⟩ | ⟨-, rfl⟩⟩ := exec_cases c { s with pending := rest } <;>
      obtain rfl := Host.Outcome.next.inj (h.symm.trans e)
    · exact moves.inv move (queue s rest p)
    · exact command v _ (queue s rest p)
    · exact reset _

/-! ## The blocks each elementary change reaches -/

/-- The blocks that a write of a register changes at most, where it is not CMD. -/
def registerBlocks : Register → List Block
  | .tbCtrl | .timeHi => [.timebase, .irq]
  | .timeLo => [.timebase, .lines, .irq]
  | .param _ => [.port, .irq]
  | .reserve | .poolLow => [.agenda, .irq]
  | .lineCfg _ | .pairCfg _ => [.lines, .irq]
  | .groupCfg _ | .groupStat _ => [.groups, .irq]
  | .inCfg _ | .filterInt | .capTh | .capStat | .capPop => [.capture, .irq]
  | .rptTh | .rptStat | .rptPop => [.reports, .irq]
  | .rowSel | .row _ | .reactStat => [.reactions, .irq]
  | .batchSel => [.batch, .irq]
  | .cmd => portBlocks
  | _ => [.irq]

theorem writeTbCtrlWord_keeps (v : Word) (s : State) : Keeps [.timebase, .irq] s (writeTbCtrlWord v s) :=
  writeTbCtrl_keeps _ _ _ s

theorem writeRegister_keeps (r : Register) (v : Word) (s : State) :
    Keeps (registerBlocks r) s (writeRegister r v s) := by
  cases r with
  | tbCtrl => exact writeTbCtrlWord_keeps v s
  | timeHi => exact (withTimebase_keeps _ s).mono
  | timeLo => exact (writeTimeLo_keeps v s).mono
  | flags => exact (writeFlags_keeps v s).mono
  | irqEn => exact (writeIrqEn_keeps v s).mono
  | cmd => exact writeCmd_keeps v s
  | param k => exact writeParam_keeps k v s
  | reserve => exact writeReserve_keeps v s
  | poolLow => exact writePoolLow_keeps v s
  | lineCfg n => exact writeLineCfg_keeps n v s
  | pairCfg p => exact writePairCfg_keeps p v s
  | groupCfg g => exact writeGroupCfg_keeps g v s
  | groupStat g => exact writeGroupStat_keeps g v s
  | inCfg n => exact writeInCfg_keeps n v s
  | filterInt => exact writeFilterInt_keeps v s
  | capTh => exact writeCapTh_keeps v s
  | capStat => exact (writeCapStat_keeps s).mono
  | capPop => exact popCapture_keeps s
  | rptTh => exact writeRptTh_keeps v s
  | rptStat => exact (writeRptStat_keeps s).mono
  | rptPop => exact popReport_keeps s
  | rowSel => exact writeRowSel_keeps v s
  | row k => exact writeRow_keeps k v s
  | reactStat => exact (writeReactStat_keeps s).mono
  | batchSel => exact writeBatchSel_keeps v s
  | _ => exact refuse_keeps _ _ s

theorem readTimeLo_keeps (s : State) : Keeps [.timebase, .dataOut] s (readTimeLo s) := by
  constructor
  case timebase => exact fun n => absurd (by simp) n
  case dataOut => exact fun n => absurd (by simp) n
  all_goals exact fun _ => rfl

/-- Every elementary change leaves the queue of commands. -/
theorem Move.pending (m : Move s t) : t.pending = s.pending := by
  cases m with
  | quiet h => exact h.pending (by decide)
  | register h v =>
    refine (writeRegister_keeps _ v s).pending ?_
    rename_i r
    cases r <;> simp [registerBlocks, portBlocks]
  | timeRead => rfl
  | tick => exact (advanceTime_keeps s).pending (by decide)
  | count => rfl
  | guardEnd p => exact (guardEndIfReached_keeps p s).pending (by decide)
  | trip g c => exact (tripRequest_keeps g c s).pending (by decide)
  | samplePhase => rfl
  | input => rfl
  | capture n e x f => exact (offerCapture_keeps n e x f s).pending (by decide)
  | matched => rfl
  | reaction => exact (offerReaction_keeps _ s).pending (by decide)
  | held h => exact (heldAnswer_keeps h s).pending (by decide)
  | grant => exact (granted_keeps _ s).pending (by decide)
  | advance => exact (advance_keeps _ s).pending (by decide)
  | firstRequest => exact (firstRequest_keeps s).pending (by decide)

/-- Settles O3: every command answers, and neither a chain of elementary changes, nor the acceptance of a
command, nor the device reset reaches the queue. -/
theorem everyCommandAnswersNext : Obligations.EveryCommandAnswersNext := by
  intro c s
  obtain ⟨t, e, moves | ⟨v, rfl⟩ | ⟨-, rfl⟩⟩ := exec_cases c s
  · exact ⟨t, e, moves.inv (P := fun u => u.pending = s.pending) (fun _ _ m h => m.pending.trans h) rfl⟩
  · exact ⟨_, e, (writeCmd_keeps v s).pending (by decide)⟩
  · exact ⟨_, e, rfl⟩

/-- Settles O1: a step with a command at the front is that command on the rest of the queue. -/
theorem stepRunsFrontCommand : Obligations.StepRunsFrontCommand := fun _ _ _ => rfl

end Sys2Proof.Machine
end

section
/-! Chapter Commands: what the acceptance of a command and the answer to a held one can do. `Answered v s t`
is an owner's answer to a command of code `v`, before the port completes; `judge_cases` and
`heldAnswer_cases` say that a command is handed to the agenda, held, or completed with such an answer. -/

-- Each lemma waits for the ones before it: elaborated side by side they hold a thread each.
set_option Elab.async false

namespace Sys2Proof.Machine

variable {s t : State}

/-! ## Insertions that parameters hold (R16, R178) -/

theorem repetitionOf_eq {period count : Nat} {r : Repetition} (h : repetitionOf period count = some r) :
    periodOf r = period ∧ countOf r = count ∧ (hasPeriod r = true ↔ period ≠ 0) ∧
      (hasCount r = true ↔ count ≠ 0) ∧ period ≤ Config.horizon := by
  unfold repetitionOf at h
  split at h
  · cases h
  · split at h
    · split at h
      · cases h
        simp_all [periodOf, countOf, hasPeriod, hasCount]
      · cases h
    · split at h <;> cases h <;> simp_all [periodOf, countOf, hasPeriod, hasCount]

/-- A repetition that a period and a count of 16 bits name is within the values of R15. -/
theorem repetitionOk_of_repetitionOf {period count : Nat} {r : Repetition}
    (h : repetitionOf period count = some r) (small : count ≤ 65535) : repetitionOk r := by
  obtain ⟨p, c, hasP, hasC, horizon⟩ := repetitionOf_eq h
  cases r with
  | oneShot => trivial
  | endless q =>
    simp only [periodOf, hasPeriod, true_iff] at p hasP
    exact ⟨by omega, by omega⟩
  | counted q n =>
    simp only [periodOf, hasPeriod, countOf, hasCount, true_iff] at p hasP c hasC
    exact ⟨by omega, by omega, by omega, by omega⟩

/-- An insertion of P0..P7 passes the checks of R16, and a PULSE of it begins with its ASSERT (R17, R178). -/
theorem insertionOk_of_insertionOf {p : Vector Word 8} {i : Insertion} (h : insertionOf p = some i) :
    insertionOk i := by
  unfold insertionOf at h
  dsimp only at h
  split at h
  · rename_i action option r _ _ repetition
    split at h
    · cases h
    · rename_i pulse
      cases h
      obtain ⟨period, -, has, -⟩ := repetitionOf_eq repetition
      have width := p[4].isLt
      refine ⟨?_, repetitionOk_of_repetitionOf repetition (by have := p[5].isLt; omega), ?_⟩
      · cases action <;> try trivial
        simp only [true_and, pulseWidthOk, Bool.not_eq_false, Bool.and_eq_true, Bool.or_eq_true,
          decide_eq_true_eq] at pulse
        exact ⟨pulse.1, by omega, fun hp => by rw [period]; exact pulse.2.resolve_left (has.1 hp)⟩
      · cases action <;> rfl
  · cases h

/-! ## Answers -/

/-- The batch apply service is under way (R150). -/
theorem applyRuns_iff (s : State) : applyRuns s = true ↔ applying s := by
  unfold applyRuns applying
  cases s.arbiter.activity <;> simp

/-- An owner's answer to a command of code `v`: nothing changes, or its one change. -/
inductive Answered (v : Word) (s : State) : State → Prop where
  | nothing : Answered v s s
  | request (l : Fin 16) (r : Request) : Answered v s (Machine.request l r s).2
  | start (g : Fin 4) : Answered v s (startGroup g s).2
  | stop (g : Fin 4) : Answered v s (stopGroup g s).2
  | release {g : Fin 4} (code : v = 0x13) (named : s.port.params[0].toNat = g.val) :
    Answered v s (releaseGroup g s).2
  | trip (mask : Nat) : Answered v s (tripMask mask .host s)
  | stage {e : Edit} (free : ¬ applying s) (ok : editOk e) : Answered v s (stage e s).2
  | commitNow (free : ¬ applying s) : Answered v s (commitNow s).2
  | commitEntry (h : Handle) (idle : s.arbiter.activity = none) : Answered v s (commitEntry h s).2
  | discard (free : ¬ applying s) : Answered v s (discard s).2

/-- What becomes of a judged command: it waits for the agenda, it is held, or it is answered (R58, R173,
R176). -/
inductive Judged (v : Word) (s : State) : State → Prop where
  | handed (code : v ∈ agendaCodes) : Judged v s (raiseHost s)
  | held (h : Held) (code : v ∈ batchCodes) (busy : s.arbiter.activity ≠ none) : Judged v s (hold h s)
  | completed {u : State} (code : ResultCode) (answer : Answered v s u) : Judged v s (complete code [] u)

theorem judged_badParam (v : Word) (s : State) : Judged v s (badParam s) := .completed _ .nothing

theorem applying_busy (h : applying s) : s.arbiter.activity ≠ none := by
  obtain ⟨v, hv, -⟩ := h
  simp [hv]

/-- The four batch answers that wait for no entry. -/
theorem judged_judgeBatch {v : Word} {answer : State → ResultCode × State} (code : v ∈ batchCodes)
    (h : ¬ applying s → Answered v s (answer s).2) : Judged v s (judgeBatch answer s) := by
  unfold judgeBatch
  split
  · rename_i runs
    exact .held _ code (applying_busy ((applyRuns_iff s).1 runs))
  · rename_i free
    exact .completed _ (h fun k => free ((applyRuns_iff s).2 k))

theorem answered_insert {v : Word} (free : ¬ applying s) : Answered v s (answerInsert s).2 := by
  unfold answerInsert insertEdit
  split
  · rename_i e h
    obtain ⟨i, fields, rfl⟩ := Option.map_eq_some_iff.1 h
    exact .stage free (insertionOk_of_insertionOf fields)
  · exact .nothing

/-- The answer to a commit, where a commit with ENTRY is judged at an IDLE agenda. -/
theorem answered_commit {v : Word} (free : ¬ applying s)
    (idle : s.port.params[0].toNat = 1 → s.arbiter.activity = none) :
    Answered v s (answerCommit s).2 := by
  unfold answerCommit
  split
  · exact .commitNow free
  · rename_i mode
    exact .commitEntry _ (idle mode)
  · exact .nothing

theorem judged_judgeCommit {v : Word} (code : v ∈ batchCodes) : Judged v s (judgeCommit s) := by
  unfold judgeCommit
  split
  · rename_i mode
    exact judged_judgeBatch code fun free => answered_commit free (by simp [mode])
  · split
    · rename_i runs
      exact .held _ code (applying_busy ((applyRuns_iff s).1 runs))
    · rename_i free
      split
      · rename_i busy
        exact .held _ code (by simpa [Option.isSome_iff_ne_none] using busy)
      · rename_i idle
        exact .completed _ (answered_commit (fun k => free ((applyRuns_iff s).2 k))
          fun _ => by simpa using idle)
  · exact judged_badParam v s

theorem groupParam_eq {g : Fin 4} (h : groupParam s = some g) : s.port.params[0].toNat = g.val := by
  unfold groupParam at h
  split at h
  · cases h; rfl
  · cases h

theorem judged_judgeGroup {v : Word} {answer : Fin 4 → State → ResultCode × State}
    (h : ∀ g : Fin 4, s.port.params[0].toNat = g.val → Answered v s (answer g s).2) :
    Judged v s (judgeGroup answer s) := by
  unfold judgeGroup
  split
  · rename_i g named
    exact .completed _ (h g (groupParam_eq named))
  · exact judged_badParam v s

/-- The acceptance of a command, by its code (R173, R200). -/
theorem judge_judged (v : Word) (s : State) : Judged v s (judge v s) := by
  have code : ∀ n : Nat, n < 65536 → v.toNat = n → v = BitVec.ofNat 16 n := fun n _ h =>
    BitVec.eq_of_toNat_eq (by rw [h, BitVec.toNat_ofNat]; omega)
  have agenda : ∀ n : Nat, n < 65536 → BitVec.ofNat 16 n ∈ agendaCodes → v.toNat = n → v ∈ agendaCodes :=
    fun n lt mem h => code n lt h ▸ mem
  have batch : ∀ n : Nat, n < 65536 → BitVec.ofNat 16 n ∈ batchCodes → v.toNat = n → v ∈ batchCodes :=
    fun n lt mem h => code n lt h ▸ mem
  generalize e : judge v = f
  unfold judge at e
  split at e <;> subst e <;> rename_i k
  · unfold judgeInsert
    split
    · exact .handed (agenda _ (by decide) (by decide) k)
    · exact judged_badParam v s
  · exact .handed (agenda _ (by decide) (by decide) k)
  · exact .handed (agenda _ (by decide) (by decide) k)
  · exact .handed (agenda _ (by decide) (by decide) k)
  · unfold judgeQuery
    split
    · exact .handed (agenda _ (by decide) (by decide) k)
    · exact judged_badParam v s
  · exact .handed (agenda _ (by decide) (by decide) k)
  · unfold judgeLineSet
    dsimp only
    split
    · exact .completed _ (.request _ _)
    · exact judged_badParam v s
  · exact judged_judgeGroup fun g _ => .start g
  · exact judged_judgeGroup fun g _ => .stop g
  · unfold judgeTrip
    split
    · exact .completed _ (.trip _)
    · exact judged_badParam v s
  · exact judged_judgeGroup fun g named => .release (code _ (by decide) k) named
  · unfold judgeBatchInsert
    split
    · exact judged_judgeBatch (batch _ (by decide) (by decide) k) answered_insert
    · exact judged_badParam v s
  · exact judged_judgeBatch (batch _ (by decide) (by decide) k) fun free => .stage free trivial
  · exact judged_judgeBatch (batch _ (by decide) (by decide) k) fun free => .stage free trivial
  · exact judged_judgeCommit (batch _ (by decide) (by decide) k)
  · exact judged_judgeBatch (batch _ (by decide) (by decide) k) fun free => .discard free
  · exact .handed (agenda _ (by decide) (by decide) k)
  · exact .completed _ .nothing

/-- A CMD write is refused at a WAITING port, and judged at a READY one (R173, R174). -/
theorem writeCmd_cases (v : Word) (s : State) :
    (s.port.waiting = true ∧ writeCmd v (judge v) s = refuse .cmd .cmdWaiting s) ∨
    (s.port.waiting = false ∧ Judged v (withPort { s.port with cmd := v, result := .none } s)
      (writeCmd v (judge v) s)) := by
  unfold writeCmd
  split
  · exact .inl ⟨‹_›, rfl⟩
  · rename_i ready
    exact .inr ⟨by simpa using ready, judge_judged v _⟩

/-- A held command is answered at an IDLE agenda, where it is this row's; else nothing changes (R148,
R150, R176). -/
theorem heldAnswer_cases (h : Held) (s : State) : heldAnswer h s = s ∨
    (s.port.held = some h ∧ s.arbiter.activity = none ∧
      ∃ code u, heldAnswer h s = complete code [] u ∧ Answered 0 s u) := by
  unfold heldAnswer
  split
  · rename_i k
    obtain ⟨held, idle⟩ := k
    refine .inr ⟨held, idle, _, _, rfl, ?_⟩
    have free : ¬ applying s := fun k => applying_busy k idle
    unfold answerHeld
    split
    · exact answered_insert free
    · exact .stage free trivial
    · exact .stage free trivial
    · exact answered_commit free fun _ => idle
    · exact .discard free
  · exact .inl rfl

/-! ## What answers leave -/

/-- The blocks that an owner's answer changes at most. -/
def answerBlocks : List Block := [.arbiter, .lines, .groups, .batch, .irq]

theorem Answered.keeps {v : Word} (h : Answered v s t) : Keeps answerBlocks s t := by
  cases h with
  | nothing => exact Keeps.refl _ s
  | request l r => exact (request_keeps l r s).mono
  | start g => exact (startGroup_keeps g s).mono
  | stop g => exact (stopGroup_keeps g s).mono
  | release => exact (releaseGroup_keeps _ s).mono
  | trip m => exact (tripMask_keeps m _ s).mono
  | stage => exact (stage_keeps _ s).mono
  | commitNow => exact (commitNow_keeps s).mono
  | commitEntry h => exact (commitEntry_keeps h s).mono
  | discard => exact (discard_keeps s).mono

/-- A trip request leaves the service under way and every claim but its group's purge. -/
theorem tripRequest_arbiter (g : Fin 4) (c : Cause) (s : State) :
    (tripRequest g c s).arbiter = s.arbiter ∨
      (s.groups[g].state = .run ∧ s.groups[g].policy = .purge ∧
        (tripRequest g c s).arbiter = { s.arbiter with purge := s.arbiter.purge.set g true }) := by
  unfold tripRequest tripEntry
  dsimp only
  split
  · rename_i run
    split
    · rename_i policy
      exact .inr ⟨run, policy, rfl⟩
    · exact .inl rfl
  · exact .inl rfl
  · exact .inl rfl

theorem tripRequest_claims (g : Fin 4) (c : Cause) (s : State) :
    (tripRequest g c s).arbiter.activity = s.arbiter.activity ∧
      (tripRequest g c s).arbiter.apply = s.arbiter.apply ∧
      (tripRequest g c s).arbiter.host = s.arbiter.host := by
  obtain e | ⟨-, -, e⟩ := tripRequest_arbiter g c s <;> rw [e] <;> exact ⟨rfl, rfl, rfl⟩

theorem tripMask_claims (mask : Nat) (c : Cause) (s : State) :
    (tripMask mask c s).arbiter.activity = s.arbiter.activity ∧
      (tripMask mask c s).arbiter.apply = s.arbiter.apply ∧
      (tripMask mask c s).arbiter.host = s.arbiter.host := by
  refine foldl_inv (P := fun t => t.arbiter.activity = s.arbiter.activity ∧
    t.arbiter.apply = s.arbiter.apply ∧ t.arbiter.host = s.arbiter.host) (fun t g k => ?_) _ s ⟨rfl, rfl, rfl⟩
  split
  · obtain ⟨activity, apply, host⟩ := tripRequest_claims g c t
    obtain ⟨activity', apply', host'⟩ := k
    exact ⟨activity.trans activity', apply.trans apply', host.trans host'⟩
  · exact k

/-- An answer leaves the service under way and the host claim. -/
theorem Answered.activity {v : Word} (h : Answered v s t) :
    t.arbiter.activity = s.arbiter.activity ∧ t.arbiter.host = s.arbiter.host := by
  have same : t.arbiter = s.arbiter →
      t.arbiter.activity = s.arbiter.activity ∧ t.arbiter.host = s.arbiter.host := fun e => by rw [e]; exact ⟨rfl, rfl⟩
  cases h with
  | nothing => exact ⟨rfl, rfl⟩
  | request l r => exact same ((request_keeps l r s).arbiter (by decide))
  | start g => exact same ((startGroup_keeps g s).arbiter (by decide))
  | stop g => exact same ((stopGroup_keeps g s).arbiter (by decide))
  | release => exact same ((releaseGroup_keeps _ s).arbiter (by decide))
  | trip m =>
    obtain ⟨activity, -, host⟩ := tripMask_claims m .host s
    exact ⟨activity, host⟩
  | stage => exact same ((stage_keeps _ s).arbiter (by decide))
  | commitNow => unfold Machine.commitNow; split <;> exact ⟨rfl, rfl⟩
  | commitEntry h => exact same ((commitEntry_keeps h s).arbiter (by decide))
  | discard => unfold Machine.discard; split <;> exact ⟨rfl, rfl⟩

theorem Judged.keeps {v : Word} (h : Judged v s t) : Keeps portBlocks s t := by
  cases h with
  | handed => exact raiseHost_keeps s
  | held h => exact hold_keeps h s
  | completed code answer => exact answer.keeps.andThen (complete_keeps code [] _)

theorem Judged.activity {v : Word} (h : Judged v s t) : t.arbiter.activity = s.arbiter.activity := by
  cases h with
  | handed | held => rfl
  | completed code answer => exact answer.activity.1

/-- The acceptance of a command leaves the service under way (R174). -/
theorem writeCmd_activity (v : Word) (s : State) :
    (writeCmd v (judge v) s).arbiter.activity = s.arbiter.activity := by
  obtain ⟨-, e⟩ | ⟨-, judged⟩ := writeCmd_cases v s
  · rw [e]; rfl
  · exact judged.activity

theorem heldAnswer_activity (h : Held) (s : State) :
    (heldAnswer h s).arbiter.activity = s.arbiter.activity := by
  obtain e | ⟨-, -, code, u, e, answer⟩ := heldAnswer_cases h s <;> rw [e]
  exact answer.activity.1

end Sys2Proof.Machine
end

section
/-! Chapter The Agenda: what the work of a service does to the agenda. `Reworked V ks a b` says that work which
tells `ks` leads from agenda `a` to agenda `b`, its insertions satisfying `V`: it is made of insertions,
replacements, endings and removals of pending entries (R17 to R49). Every plan of a service is such work
(`plan_reworked`), and it keeps the slots, the values of the entries, and gives notice of each entry that
leaves or acts. -/

-- Each lemma waits for the ones before it: elaborated side by side they hold a thread each.
set_option Elab.async false

namespace Sys2Proof.Machine

variable {a b : Agenda} {e x : Entry} {now : Time}

/-! ## An entry that acts (R27 to R35) -/

/-- The entry that something follows a repetition of. -/
def Following.entry : Following → Entry
  | .again x => x
  | .over x => x
  | .dropped x => x

theorem nextRepetition_entry_handle (e : Entry) (now : Time) (period : Nat) (left : Option Nat) :
    (nextRepetition e now period left).entry.handle = e.handle := by
  unfold nextRepetition
  dsimp only
  split
  · split
    · rfl
    · split
      · rfl
      · split <;> rfl
  · rfl

/-- What follows an act is about the entry that acted. -/
theorem following_entry_handle (e : Entry) (now : Time) : (following e now).entry.handle = e.handle := by
  unfold following
  split
  · rfl
  · exact nextRepetition_entry_handle _ _ _ _
  · split
    · rfl
    · exact nextRepetition_entry_handle _ _ _ _

/-- A repetition of the same period, anchored at its due, is within the values of R15. -/
theorem entryOk_atRepetition (ok : entryOk e) (due : Time) {r : Repetition} (rOk : repetitionOk r)
    (has : hasPeriod r = hasPeriod e.repetition) (period : periodOf r = periodOf e.repetition) :
    entryOk (atRepetition e due r) := by
  obtain ⟨job, -, -, missed⟩ := ok
  refine ⟨?_, rOk, ?_, missed⟩ <;> unfold atRepetition rearmedJob
  · cases h : e.job with
    | drive | mark => trivial
    | pulse l w p =>
      rw [h] at job
      simpa [jobOk, has, period] using job
  · cases e.job <;> simp [anchorOk]

theorem entryOk_addMissed (ok : entryOk e) (k : Nat) : entryOk (addMissed e k) := by
  obtain ⟨job, repetition, anchor, -⟩ := ok
  exact ⟨job, repetition, anchor, Nat.min_le_left _ _⟩

theorem entryOk_afterReport (ok : entryOk e) (final : Bool) : entryOk (afterReport e final) := by
  obtain ⟨job, repetition, anchor, -⟩ := id ok
  unfold afterReport
  split
  · exact ⟨job, repetition, anchor, Nat.zero_le _⟩
  · exact ok

@[simp] theorem afterReport_handle (e : Entry) (final : Bool) : (afterReport e final).handle = e.handle := by
  unfold afterReport
  split <;> rfl

/-- The next repetition of an entry is within the values of R15 where the remaining count is (R31, R32). -/
theorem nextRepetition_again {period : Nat} {left : Option Nat} (ok : entryOk e)
    (rest : ∀ n ≥ 1, (∀ c, left = some c → n ≤ c) →
      repetitionOk (match left with | none => .endless period | some _ => .counted period n))
    (has : hasPeriod e.repetition = true) (periods : periodOf e.repetition = period)
    (some_left : ∀ c, left = some c → 1 ≤ c)
    (h : nextRepetition e now period left = .again x) : entryOk x := by
  unfold nextRepetition at h
  dsimp only at h
  cases left with
  | none =>
    have rOk : repetitionOk (.endless period) := rest 1 (le_refl 1) (by simp)
    split at h
    · split at h
      · cases h
      · cases h
        exact entryOk_atRepetition (entryOk_addMissed ok _) _ rOk has.symm periods.symm
    · cases h
      exact entryOk_atRepetition ok _ rOk has.symm periods.symm
  | some c =>
    have rOk : ∀ n ≥ 1, n ≤ c → repetitionOk (.counted period n) := fun n one le =>
      rest n one (by rintro _ ⟨⟩; exact le)
    split at h
    · split at h
      · cases h
      · dsimp only at h
        split at h
        · cases h
          exact entryOk_atRepetition (entryOk_addMissed ok _) _ (rOk _ (by omega) (by omega)) has.symm
            periods.symm
        · cases h
    · cases h
      exact entryOk_atRepetition ok _ (rOk c (some_left c rfl) (le_refl c)) has.symm periods.symm

/-- An entry that is placed again after an act is within the values of R15 (R31, R32). -/
theorem following_again (ok : entryOk e) (h : following e now = .again x) : entryOk x := by
  obtain ⟨-, repetition, -⟩ := id ok
  unfold following at h
  split at h
  · cases h
  · rename_i period r
    rw [r] at repetition
    exact nextRepetition_again (left := none) ok (fun _ _ _ => repetition) (by rw [r]; rfl) (by rw [r]; rfl) (by simp) h
  · rename_i period count r
    rw [r] at repetition
    obtain ⟨one, horizon, -, most⟩ := repetition
    split at h
    · cases h
    · rename_i left
      refine nextRepetition_again ok (fun n pos le => ?_) (by rw [r]; rfl) (by rw [r]; rfl) ?_ h
      · exact ⟨one, horizon, pos, by have := le _ rfl; omega⟩
      · rintro c ⟨⟩
        omega

/-- What the settling of an act leaves: the entry placed again, or its slot freed (R31 to R34). -/
theorem settle_agenda (e : Entry) (ask : Option Report → List Task) (counted : Bool) (due now : Time)
    (a : Agenda) :
    (∃ x, following e now = .again x ∧ (settle e ask counted due now a).1 = place (afterReport x false) a) ∨
    (settle e ask counted due now a).1 = freeSlot e.handle.slot a ∧
      ∀ q ∈ departure e.handle counted, q ∈ (settle e ask counted due now a).2 := by
  have handle := following_entry_handle e now
  unfold settle
  rcases h : following e now with x | x | x
  · exact .inl ⟨x, rfl, rfl⟩
  · have same : x.handle = e.handle := by rw [h] at handle; exact handle
    simp_all
  · have same : x.handle = e.handle := by rw [h] at handle; exact handle
    simp_all

theorem entryOk_movedToReturn {l : Fin 16} {w : Nat} (ok : entryOk e) (job : e.job = .pulse l w .assertAct) :
    entryOk (movedToReturn e l w) := by
  obtain ⟨jobs, repetition, -, missed⟩ := ok
  refine ⟨?_, repetition, rfl, missed⟩
  rw [job] at jobs
  exact jobs

/-- What an act leaves: the entry placed again, or its slot freed with the notice that it acted or left
(R27 to R35). -/
theorem act_agenda (e : Entry) (now : Time) (a : Agenda) :
    (∃ x, (act e now a).1 = place x a ∧ x.handle = e.handle ∧ (entryOk e → entryOk x)) ∨
    ((act e now a).1 = freeSlot e.handle.slot a ∧
      (Task.acted e.handle ∈ (act e now a).2 ∨ Task.gone e.handle ∈ (act e now a).2)) := by
  have settled : ∀ (y : Entry) (ask : Option Report → List Task) (counted : Bool) (due : Time),
      y.handle = e.handle → (entryOk e → entryOk y) →
      (∃ x, (settle y ask counted due now a).1 = place x a ∧ x.handle = e.handle ∧ (entryOk e → entryOk x)) ∨
      ((settle y ask counted due now a).1 = freeSlot e.handle.slot a ∧
        ∀ q ∈ departure e.handle counted, q ∈ (settle y ask counted due now a).2) := by
    intro y ask counted due same ok
    have handle := following_entry_handle y now
    obtain ⟨x, again, eq⟩ | ended := settle_agenda y ask counted due now a
    · refine .inl ⟨_, eq, ?_, fun k => entryOk_afterReport (following_again (ok k) again) _⟩
      rw [again] at handle
      exact (afterReport_handle x false).trans (handle.trans same)
    · rw [same] at ended
      exact .inr ended
  have counts : ∀ w : Work, Task.acted e.handle ∈ (countedAct e.handle w).2 := by simp [countedAct]
  unfold act
  split
  · exact (settled e _ true _ rfl id).imp id fun ended => ⟨ended.1, .inl (counts _)⟩
  · exact (settled e _ true _ rfl id).imp id fun ended => ⟨ended.1, .inl (counts _)⟩
  · rename_i l w job
    have moved : entryOk e → entryOk (afterReport (movedToReturn e l w) false) := fun ok =>
      entryOk_afterReport (entryOk_movedToReturn ok job) _
    have same : (afterReport (movedToReturn e l w) false).handle = e.handle := afterReport_handle _ _
    by_cases late : isLate (afterReport (movedToReturn e l w) false).due now = true
    · have eq : (assertAct l w e now a).1 =
          (returnAct l true (afterReport (movedToReturn e l w) false) now a).1 := by
        unfold assertAct
        dsimp only
        rw [if_pos late]
      obtain ⟨x, placed, rest⟩ | ended := settled _ (askLine l .inactive) true
        (afterReport (movedToReturn e l w) false).due same moved
      · exact .inl ⟨x, eq.trans placed, rest⟩
      · exact .inr ⟨eq.trans ended.1, .inl (counts _)⟩
    · refine .inl ⟨_, ?_, same, moved⟩
      unfold countedAct assertAct
      dsimp only
      rw [if_neg late]
  · refine (settled e _ false _ rfl id).imp id fun ended => ⟨ended.1, .inr (ended.2 _ ?_)⟩
    simp [departure]

/-- An entry that is placed, or acts at once where its due is late, is placed or its slot is freed (R38, R39,
R45). -/
theorem placeOrAct_agenda (e : Entry) (now : Time) (a : Agenda) :
    (∃ x, (placeOrAct e now a).1 = place x a ∧ x.handle = e.handle ∧ (entryOk e → entryOk x)) ∨
    ((placeOrAct e now a).1 = freeSlot e.handle.slot a ∧
      (Task.acted e.handle ∈ (placeOrAct e now a).2 ∨ Task.gone e.handle ∈ (placeOrAct e now a).2)) := by
  unfold placeOrAct
  split
  · exact act_agenda e now a
  · exact .inl ⟨e, rfl, rfl, id⟩

/-! ## The work of a service -/

/-- Work that tells `ks` leads from the first agenda to the second; its insertions satisfy `V`. -/
inductive Reworked (V : Insertion → Prop) : List Task → Agenda → Agenda → Prop where
  | same (ks : List Task) (a : Agenda) : Reworked V ks a a
  /-- a new entry is placed in the slot that an allocation takes -/
  | inserted {a b : Agenda} {h : Handle} {i : Insertion} {x : Entry} (ks : List Task) (valid : V i)
    (alloc : allocate a = some (h, b)) (handle : x.handle = h) (ok : insertionOk i → entryOk x) :
    Reworked V ks a (place x b)
  /-- a new entry ends in its own service -/
  | returned {a b : Agenda} {h : Handle} (ks : List Task) (alloc : allocate a = some (h, b)) :
    Reworked V ks a (freeSlot h.slot b)
  /-- a pending entry is placed again -/
  | replaced {a : Agenda} {e x : Entry} (ks : List Task) (mem : e ∈ a.list) (handle : x.handle = e.handle)
    (ok : entryOk e → entryOk x) : Reworked V ks a (place x (takeOut e.handle.slot a))
  /-- a pending entry ends, by its act or a removal -/
  | ended {a : Agenda} {e : Entry} {ks : List Task} (mem : e ∈ a.list)
    (told : .acted e.handle ∈ ks ∨ .gone e.handle ∈ ks) :
    Reworked V ks a (freeSlot e.handle.slot (takeOut e.handle.slot a))
  /-- every entry that `p` holds of is removed -/
  | removed {a : Agenda} {p : Entry → Bool} {ks : List Task}
    (told : ∀ e ∈ a.list, p e = true → .gone e.handle ∈ ks) :
    Reworked V ks a { a with
      list := a.list.filter (fun e => !p e)
      free := a.free ++ (a.list.filter p).map (fun e => e.handle.slot) }
  | reset {ks : List Task} (a : Agenda) (told : .resetMoment ∈ ks) : Reworked V ks a (engineResetAgenda a)
  | andThen {a b c : Agenda} {ks : List Task} (first : Reworked V ks a b) (second : Reworked V ks b c) :
    Reworked V ks a c

variable {V : Insertion → Prop} {ks ls : List Task}

/-- Work told among more is told. -/
theorem Reworked.mono (h : Reworked V ks a b) (sub : ∀ k ∈ ks, k ∈ ls) : Reworked V ls a b := by
  induction h with
  | same ks a => exact .same _ _
  | inserted ks valid alloc handle ok => exact .inserted _ valid alloc handle ok
  | returned ks alloc => exact .returned _ alloc
  | replaced ks mem handle ok => exact .replaced _ mem handle ok
  | ended mem told => exact .ended mem (told.imp (sub _) (sub _))
  | removed told => exact .removed fun e m p => sub _ (told e m p)
  | reset a told => exact .reset a (sub _ told)
  | andThen _ _ ih₁ ih₂ => exact .andThen (ih₁ sub) (ih₂ sub)

/-- The entry that an insertion builds is within the values of R15 (R16, R17). -/
theorem entryOk_buildEntry {i : Insertion} (ok : insertionOk i) (o : Origin) (h : Handle) :
    entryOk (buildEntry i o h) := by
  obtain ⟨job, repetition, phase⟩ := ok
  refine ⟨job, repetition, ?_, Nat.zero_le _⟩
  unfold anchorOk buildEntry
  dsimp only
  split <;> simp_all [inReturn]

/-- An insertion places the entry it builds, or its entry acts at once and ends (R37). -/
theorem reworked_buildEntry {i : Insertion} {o : Origin} {h : Handle} (valid : V i)
    (alloc : allocate a = some (h, b)) :
    Reworked V (placeOrAct (buildEntry i o h) now b).2 a (placeOrAct (buildEntry i o h) now b).1 := by
  obtain ⟨x, eq, handle, ok⟩ | ⟨eq, -⟩ := placeOrAct_agenda (buildEntry i o h) now b <;> rw [eq]
  · exact .inserted _ valid alloc handle fun k => ok (entryOk_buildEntry k o h)
  · exact .returned _ alloc

theorem insertEntry_reworked {i : Insertion} {o : Origin} {h : Handle} {w : Work} (valid : V i)
    (k : insertEntry i o now a = some (h, w)) : Reworked V w.2 a w.1 := by
  obtain ⟨b, alloc, rfl⟩ := insertEntry_cases k
  exact (reworked_buildEntry valid alloc).mono fun _ m => List.mem_cons_of_mem _ m

theorem insertReaction_reworked {i : Insertion} (valid : V i) (row : Fin 16) (now : Time) (a : Agenda) :
    Reworked V (insertReaction i row now a).2 a (insertReaction i row now a).1 := by
  unfold insertReaction
  split
  · exact .same _ _
  · rename_i h b alloc
    dsimp only
    split
    · exact .returned _ alloc
    · exact (reworked_buildEntry valid alloc).mono fun _ m => List.mem_cons_of_mem _ m

theorem cancelEntry_reworked (mem : e ∈ a.list) (now : Time) :
    Reworked V (cancelEntry e now a).2 a (cancelEntry e now a).1 :=
  .ended mem (.inr (by simp [cancelEntry, removalTasks]))

/-- A pending entry that is placed again or acts at once is replaced or ends. -/
theorem reworked_placeOrAct {y : Entry} (mem : e ∈ a.list) (handle : y.handle = e.handle)
    (ok : entryOk e → entryOk y) :
    Reworked V (placeOrAct y now (takeOut e.handle.slot a)).2 a
      (placeOrAct y now (takeOut e.handle.slot a)).1 := by
  obtain ⟨x, eq, same, xOk⟩ | ⟨eq, told⟩ := placeOrAct_agenda y now (takeOut e.handle.slot a) <;> rw [eq]
  · exact .replaced _ mem (same.trans handle) fun k => xOk (ok k)
  · rw [handle] at told ⊢
    exact .ended mem told

theorem retimeEntry_reworked {due : Time} {w : Work} (mem : e ∈ a.list)
    (k : retimeEntry e due now a = .ok w) : Reworked V w.2 a w.1 := by
  obtain ⟨phase, -, rfl⟩ := retimeEntry_cases k
  refine reworked_placeOrAct (y := { e with due := due, anchor := due }) mem rfl fun ok => ?_
  obtain ⟨job, repetition, -, missed⟩ := ok
  refine ⟨job, repetition, ?_, missed⟩
  unfold anchorOk
  dsimp only
  split <;> simp_all [inReturn]

theorem makeEdit_reworked {c : Option BatchReason} {d : Edit} {h : Handle} {w : Work}
    (valid : ∀ i, d = .insert i → V i) (k : makeEdit now c d a = .ok (h, w)) : Reworked V w.2 a w.1 := by
  obtain ⟨i, rfl, -, -, k⟩ | ⟨z, -, pending, rfl⟩ | ⟨z, due, -, pending, k⟩ := makeEdit_cases k
  · exact insertEntry_reworked (valid i rfl) k
  · exact cancelEntry_reworked (resolveIn_eq_pending pending).2.1 now
  · exact retimeEntry_reworked (resolveIn_eq_pending pending).2.1 k

theorem makeEdits_reworked {c : Option BatchReason} {es : List Edit} {k : Nat} {hs : List Handle} {w : Work}
    (valid : ∀ i, .insert i ∈ es → V i) (m : makeEdits now c es k a = .ok (hs, w)) :
    Reworked V w.2 a w.1 := by
  induction es generalizing c k a hs w with
  | nil => cases m; exact .same _ _
  | cons d es ih =>
    unfold makeEdits at m
    split at m
    · cases m
    · rename_i h w' edit
      split at m
      · cases m
      · rename_i hs' v rest
        cases m
        have first := makeEdit_reworked (V := V) (fun i eq => valid i (eq ▸ List.mem_cons_self)) edit
        have second := ih (fun i mem => valid i (List.mem_cons_of_mem _ mem)) rest
        exact .andThen (first.mono fun _ m => List.mem_append_left _ m)
          (second.mono fun _ m => List.mem_append_right _ m)

theorem applyBatch_reworked {es : List Edit} (valid : ∀ i, .insert i ∈ es → V i) (reserve : Nat) (now : Time)
    (a : Agenda) : Reworked V (applyBatch es reserve now a).2 a (applyBatch es reserve now a).1 := by
  unfold applyBatch
  dsimp only
  split
  · exact .same _ _
  · rename_i hs w made
    exact (makeEdits_reworked valid made).mono fun _ m => List.mem_append_left _ m

theorem removeWhere_reworked (p : Entry → Bool) (kind : ReportKind) (now : Time) (a : Agenda) :
    Reworked V (removeWhere p kind now a).2.2 a (removeWhere p kind now a).2.1 := by
  refine .removed fun e mem hp => List.mem_flatMap.2 ⟨e, List.mem_filter.2 ⟨mem, hp⟩, ?_⟩
  simp [removalTasks]

theorem purgeGroup_reworked (g : Fin 4) (now : Time) (a : Agenda) :
    Reworked V (purgeGroup g now a).2 a (purgeGroup g now a).1 :=
  (removeWhere_reworked (inGroup g) .purged now a).mono fun _ m => List.mem_append_left _ m

/-- The head that leaves the list and acts is taken out of it. -/
theorem takeOut_head {rest : List Entry} (h : a.list = e :: rest) :
    takeOut e.handle.slot a = { a with list := rest } := by
  simp [takeOut, h]

theorem expiryPlan_reworked (now : Time) (a : Agenda) :
    Reworked V (expiryPlan now a).2 a (expiryPlan now a).1 := by
  unfold expiryPlan
  split
  · exact .same _ _
  · rename_i e rest list
    have mem : e ∈ a.list := by rw [list]; exact List.mem_cons_self
    rw [← takeOut_head list]
    obtain ⟨x, eq, same, ok⟩ | ⟨eq, told⟩ := act_agenda e now (takeOut e.handle.slot a) <;> rw [eq]
    · exact .replaced _ mem same ok
    · exact .ended mem told

theorem reactionPlan_reworked {r : Option PendingReaction}
    (valid : ∀ x, r = some x → x.kind = .schedule → V (reactionInsertion x.time x.template)) (now : Time)
    (a : Agenda) : Reworked V (reactionPlan r now a).2 a (reactionPlan r now a).1 := by
  unfold reactionPlan
  split
  · exact .same _ _
  · split
    · exact insertReaction_reworked (valid _ rfl ‹_›) _ _ _
    · exact removeWhere_reworked _ _ _ _

theorem answered_reworked {words : List Word} {w : Work} (h : Reworked V w.2 a w.1) :
    Reworked V (answered words w).2 a (answered words w).1 :=
  h.mono fun _ m => List.mem_append_left _ m

theorem insertPlan_reworked {p : Vector Word 8} (valid : ∀ i, insertionOf p = some i → V i) (reserve : Nat)
    (now : Time) (a : Agenda) :
    Reworked V (insertPlan p reserve now a).2 a (insertPlan p reserve now a).1 := by
  unfold insertPlan
  split
  · exact .same _ _
  · split
    · exact .same _ _
    · split
      · exact .same _ _
      · split
        · rename_i k
          exact answered_reworked (insertEntry_reworked (valid _ ‹_›) k)
        · exact .same _ _

theorem cancelPlan_reworked (p : Vector Word 8) (now : Time) (a : Agenda) :
    Reworked V (cancelPlan p now a).2 a (cancelPlan p now a).1 := by
  unfold cancelPlan
  split
  · exact .same _ _
  · exact .same _ _
  · rename_i e pending
    exact answered_reworked (cancelEntry_reworked (resolveIn_eq_pending pending).2.1 now)

theorem retimePlan_reworked (p : Vector Word 8) (now : Time) (a : Agenda) :
    Reworked V (retimePlan p now a).2 a (retimePlan p now a).1 := by
  unfold retimePlan
  dsimp only
  split
  · exact .same _ _
  · exact .same _ _
  · rename_i e pending
    split
    · exact .same _ _
    · rename_i k
      exact answered_reworked (retimeEntry_reworked (resolveIn_eq_pending pending).2.1 k)

theorem queryPlan_agenda (p : Vector Word 8) (a : Agenda) : (queryPlan p a).1 = a := by
  unfold queryPlan
  split <;> rfl

theorem headPlan_agenda (a : Agenda) : (headPlan a).1 = a := by
  unfold headPlan
  split <;> rfl

theorem hostPlan_reworked {port : CommandPort} (valid : ∀ i, insertionOf port.params = some i → V i)
    (reserve : Nat) (now : Time) (a : Agenda) :
    Reworked V (hostPlan port reserve now a).2 a (hostPlan port reserve now a).1 := by
  unfold hostPlan
  split
  · exact insertPlan_reworked valid _ _ _
  · exact cancelPlan_reworked _ _ _
  · exact retimePlan_reworked _ _ _
  · exact answered_reworked (removeWhere_reworked _ _ _ _)
  · rw [queryPlan_agenda]
    exact .same _ _
  · rw [headPlan_agenda]
    exact .same _ _
  · exact .reset _ List.mem_cons_self
  · exact .same _ _

/-- Every plan of a service is such work, its insertions being those of P0..P7, of the staged edits and of the
reaction record taken at the grant. -/
theorem plan_reworked {v : Service} {s : State} (host : ∀ i, insertionOf s.port.params = some i → V i)
    (edits : ∀ i, .insert i ∈ s.batch.staging → V i)
    (record : ∀ x, v.record = some x → x.kind = .schedule → V (reactionInsertion x.time x.template)) :
    Reworked V (plan v s).2 s.agenda (plan v s).1 := by
  unfold plan
  split
  · exact expiryPlan_reworked _ _
  · exact purgeGroup_reworked _ _ _
  · exact applyBatch_reworked edits _ _ _
  · exact reactionPlan_reworked record _ _
  · exact hostPlan_reworked host _ _ _

/-- The service that a grant begins, where nothing is asked of its insertions. -/
theorem serviceFor_reworked (c : Claim) (s : State) :
    Reworked (fun _ => True) (serviceFor c s).todo s.agenda (serviceFor c s).after :=
  plan_reworked (v := takenBy c s) (fun _ _ => trivial) (fun _ _ => trivial) fun _ _ _ => trivial

end Sys2Proof.Machine
end

section
/-! Chapter The Agenda: the slot pool (R18 to R21). While an entry is out of the list and its slot is not
free, the slots are well kept but for that one (`SlotsBut`); every piece of work closes the gap it opens. -/

-- Each lemma waits for the ones before it: elaborated side by side they hold a thread each.
set_option Elab.async false

namespace Sys2Proof.Machine

variable {a b : Agenda} {e x : Entry} {s t : State}

/-! ## The slots of an agenda -/

/-- The slots are well kept but for one, which is neither free nor pending. -/
structure SlotsBut (slot : BitVec 8) (a : Agenda) : Prop where
  partition : (slot :: (a.free ++ a.list.map (fun e => e.handle.slot))).Perm allSlots
  current : ∀ e ∈ a.list, e.handle.gen = a.gens[e.handle.slot.toFin]

theorem allSlots_nodup : allSlots.Nodup := by
  refine List.Nodup.map_on (fun x hx y hy h => ?_) List.nodup_range
  have hx : x < 256 := List.mem_range.1 hx
  have hy : y < 256 := List.mem_range.1 hy
  have := congrArg BitVec.toNat h
  simp only [BitVec.toNat_ofNat] at this
  omega

theorem allSlots_length : allSlots.length = 256 := by simp [allSlots, Config.slotCount]

theorem SlotsOk.nodup (h : SlotsOk a) : (a.free ++ a.list.map (fun e => e.handle.slot)).Nodup :=
  h.partition.nodup_iff.2 allSlots_nodup

/-- An allocation opens the gap at its slot (R19, R20). -/
theorem SlotsOk.allocate {h : Handle} (ok : SlotsOk a) (k : allocate a = some (h, b)) :
    SlotsBut h.slot b ∧ h.gen = b.gens[h.slot.toFin] := by
  obtain ⟨slot, rest, free, rfl, rfl⟩ := allocate_cases k
  have nodup := ok.nodup
  have partition := ok.partition
  rw [free, List.cons_append] at nodup partition
  refine ⟨⟨partition, fun e mem => ?_⟩, by simp⟩
  have other : slot ≠ e.handle.slot := by
    rintro rfl
    exact (List.nodup_cons.1 nodup).1
      (List.mem_append_right _ (List.mem_map_of_mem (f := fun e : Entry => e.handle.slot) mem))
  have distinct : slot.toFin.val ≠ e.handle.slot.toFin.val := fun same => other (BitVec.eq_of_toNat_eq same)
  simpa only [Fin.getElem_fin, Vector.getElem_set, distinct, if_false] using ok.current e mem

/-- A placement closes the gap at the slot of its entry (R24). -/
theorem SlotsBut.place {h : Handle} (handle : x.handle = h) (gap : SlotsBut h.slot a) (gen : h.gen = a.gens[h.slot.toFin]) :
    SlotsOk (place x a) := by
  subst handle
  refine ⟨?_, fun e mem => ?_⟩
  · have placed := (placeIn_perm x a.list).map (fun e => e.handle.slot)
    exact ((placed.append_left a.free).trans List.perm_middle).trans gap.partition
  · obtain rfl | mem := mem_placeIn.1 mem
    · exact gen
    · exact gap.current e mem

/-- A freed slot closes its gap (R19, R34). -/
theorem SlotsBut.freeSlot {slot : BitVec 8} (h : SlotsBut slot a) : SlotsOk (freeSlot slot a) := by
  refine ⟨?_, h.current⟩
  have joined : (a.free ++ [slot] ++ a.list.map (fun e => e.handle.slot)).Perm
      (slot :: (a.free ++ a.list.map (fun e => e.handle.slot))) := by
    rw [List.append_assoc]
    exact List.perm_middle
  exact joined.trans h.partition

/-- An entry that is taken out opens the gap at its slot. -/
theorem SlotsOk.takeOut (ok : SlotsOk a) (mem : e ∈ a.list) :
    SlotsBut e.handle.slot (takeOut e.handle.slot a) ∧ e.handle.gen = a.gens[e.handle.slot.toFin] := by
  obtain ⟨y, before, after, -, same, list, erased⟩ :=
    List.exists_of_eraseP (p := fun x : Entry => x.handle.slot == e.handle.slot) mem (by simp)
  have same : y.handle.slot = e.handle.slot := by simpa using same
  refine ⟨⟨?_, fun z mem => ok.current z (List.mem_of_mem_eraseP mem)⟩, ok.current e mem⟩
  have partition := ok.partition
  rw [list, List.map_append, List.map_cons, same] at partition
  rw [takeOut_list, takeOut_free, erased, List.map_append]
  rw [← List.append_assoc]
  refine List.Perm.trans ?_ partition
  rw [← List.append_assoc]
  exact List.perm_middle.symm

/-- Every piece of the agenda's work keeps the slots (R18, R19, R20). -/
theorem SlotsOk.reworked {V : Insertion → Prop} {ks : List Task} (ok : SlotsOk a) (h : Reworked V ks a b) :
    SlotsOk b := by
  induction h with
  | same => exact ok
  | inserted ks valid alloc handle =>
    obtain ⟨gap, gen⟩ := ok.allocate alloc
    exact gap.place handle gen
  | returned ks alloc => exact (ok.allocate alloc).1.freeSlot
  | replaced ks mem handle =>
    obtain ⟨gap, gen⟩ := ok.takeOut mem
    exact gap.place handle gen
  | ended mem => exact (ok.takeOut mem).1.freeSlot
  | @removed a p ks =>
    refine ⟨?_, fun e mem => ok.current e (List.mem_filter.1 mem).1⟩
    have split := (List.filter_append_perm p a.list).map (fun e => e.handle.slot)
    rw [List.map_append] at split
    rw [List.append_assoc]
    exact (split.append_left a.free).trans ok.partition
  | reset a => exact ⟨by simp [engineResetAgenda], by simp [engineResetAgenda]⟩
  | andThen _ _ ih₁ ih₂ => exact ih₂ (ih₁ ok)

/-! ## Handles (R21) -/

/-- Two pending entries in one slot are one. -/
theorem SlotsOk.eq_of_slot {y : Entry} (ok : SlotsOk a) (hx : x ∈ a.list) (hy : y ∈ a.list)
    (same : x.handle.slot = y.handle.slot) : x = y :=
  List.inj_on_of_nodup_map (List.nodup_append.1 ok.nodup).2.1 hx hy same

/-- The entry that stands in a slot. -/
theorem SlotsOk.find?_eq (ok : SlotsOk a) (slot : BitVec 8) :
    a.list.find? (fun e => e.handle.slot == slot) = some e ↔ e ∈ a.list ∧ e.handle.slot = slot := by
  constructor
  · intro found
    exact ⟨List.mem_of_find?_eq_some found, by simpa using List.find?_some found⟩
  · rintro ⟨mem, rfl⟩
    cases found : a.list.find? (fun x => x.handle.slot == e.handle.slot) with
    | none => simpa using List.find?_eq_none.1 found e mem
    | some y =>
      have same : y.handle.slot = e.handle.slot := by simpa using List.find?_some found
      rw [ok.eq_of_slot (List.mem_of_find?_eq_some found) mem same]

/-- A slot is free exactly where no pending entry stands in it (R18). -/
theorem SlotsOk.mem_free (ok : SlotsOk a) (slot : BitVec 8) :
    slot ∈ a.free ↔ ∀ e ∈ a.list, e.handle.slot ≠ slot := by
  constructor
  · rintro free e mem rfl
    exact (List.nodup_append.1 ok.nodup).2.2 _ free _
      (List.mem_map_of_mem (f := fun e : Entry => e.handle.slot) mem) rfl
  · intro none
    have all : slot ∈ allSlots :=
      List.mem_map.2 ⟨slot.toNat, List.mem_range.2 slot.isLt, by simp⟩
    obtain free | pending := List.mem_append.1 (ok.partition.mem_iff.2 all)
    · exact free
    · obtain ⟨e, mem, rfl⟩ := List.mem_map.1 pending
      exact absurd rfl (none e mem)

theorem SlotsOk.resolveIn_pending (ok : SlotsOk a) (h : Handle) :
    resolveIn h a = .pending e ↔ e ∈ a.list ∧ e.handle = h := by
  constructor
  · intro pending
    obtain ⟨gen, mem, slot⟩ := resolveIn_eq_pending pending
    refine ⟨mem, ?_⟩
    have own := ok.current e mem
    obtain ⟨⟨_, _⟩⟩ := e
    obtain ⟨_, _⟩ := h
    simp only at slot
    subst slot
    simp_all
  · rintro ⟨mem, rfl⟩
    unfold resolveIn
    rw [if_neg (by simp [ok.current e mem]), (ok.find?_eq _).2 ⟨mem, rfl⟩]

/-- A handle names a pending entry exactly where an entry of the list carries it. -/
theorem SlotsOk.isPending_iff (ok : SlotsOk a) (h : Handle) :
    isPending h a = true ↔ ∃ e ∈ a.list, e.handle = h := by
  unfold isPending
  cases r : resolveIn h a with
  | pending e =>
    simp only [true_iff]
    exact ⟨e, (ok.resolveIn_pending h).1 r⟩
  | stale | notPending =>
    simp only [Bool.false_eq_true, false_iff]
    rintro ⟨e, mem, handle⟩
    rw [(ok.resolveIn_pending h).2 ⟨mem, handle⟩] at r
    cases r

/-- Settles O20: a pending entry's generation is its slot's, and no two entries share a slot. -/
theorem handleResolution : Obligations.HandleResolution := by
  intro s h inv
  have ok := inv.now
  refine ⟨?stale, ?notPending, fun e => ok.resolveIn_pending h⟩
  all_goals unfold resolve resolveIn genOf
  case stale =>
    split
    · simp_all
    · split <;> simp_all
  case notPending =>
    rw [ok.mem_free]
    split
    · simp_all
    · rename_i gen
      cases found : s.agenda.list.find? (fun e => e.handle.slot == h.slot) with
      | none => simpa [not_not.1 gen] using found
      | some e =>
        obtain ⟨mem, slot⟩ := (ok.find?_eq h.slot).1 found
        simp only [reduceCtorEq, false_iff, not_and, not_forall]
        exact fun _ => ⟨e, mem, fun n => n slot⟩

/-! ## Every step keeps the slots -/

/-- SlotInv is about the agenda's slots and the service under way. -/
theorem SlotInv.congr (inv : SlotInv s) (list : t.agenda.list = s.agenda.list)
    (free : t.agenda.free = s.agenda.free) (gens : t.agenda.gens = s.agenda.gens)
    (activity : ∀ v, t.arbiter.activity = some v → ∃ w, s.arbiter.activity = some w ∧ v.after = w.after) :
    SlotInv t := by
  refine ⟨⟨?_, ?_⟩, fun v hv => ?_⟩
  · rw [list, free]
    exact inv.now.partition
  · rw [list, gens]
    exact inv.now.current
  · obtain ⟨w, hw, after⟩ := activity v hv
    rw [after]
    exact inv.served w hw

/-- What keeps the agenda and the service under way keeps SlotInv. -/
theorem SlotInv.of_eq (inv : SlotInv s) (agenda : t.agenda = s.agenda)
    (activity : t.arbiter.activity = s.arbiter.activity) : SlotInv t :=
  inv.congr (by rw [agenda]) (by rw [agenda]) (by rw [agenda])
    fun v hv => ⟨v, activity ▸ hv, rfl⟩

theorem SlotInv.keeps {bs : List Block} (inv : SlotInv s) (k : Keeps bs s t)
    (n : .agenda ∉ bs ∧ .arbiter ∉ bs := by simp [registerBlocks]) : SlotInv t :=
  inv.of_eq (k.agenda n.1) (congrArg _ (k.arbiter n.2))

/-- A write of a register leaves the list, the free queue and the generations (R22, R23). -/
theorem writeRegister_agenda (r : Register) (v : Word) (s : State) :
    (writeRegister r v s).agenda.list = s.agenda.list ∧ (writeRegister r v s).agenda.free = s.agenda.free ∧
      (writeRegister r v s).agenda.gens = s.agenda.gens := by
  have k := writeRegister_keeps r v s
  have same : .agenda ∉ registerBlocks r → (writeRegister r v s).agenda.list = s.agenda.list ∧
      (writeRegister r v s).agenda.free = s.agenda.free ∧
      (writeRegister r v s).agenda.gens = s.agenda.gens := fun n => by
    rw [k.agenda n]
    exact ⟨rfl, rfl, rfl⟩
  cases r with
  | reserve =>
    change (writeReserve v s).agenda.list = _ ∧ (writeReserve v s).agenda.free = _ ∧
      (writeReserve v s).agenda.gens = _
    unfold writeReserve
    split <;> exact ⟨rfl, rfl, rfl⟩
  | poolLow =>
    change (writePoolLow v s).agenda.list = _ ∧ (writePoolLow v s).agenda.free = _ ∧
      (writePoolLow v s).agenda.gens = _
    unfold writePoolLow
    split <;> exact ⟨rfl, rfl, rfl⟩
  | _ => exact same (by simp [registerBlocks, portBlocks])

/-- A write of a register other than CMD leaves the arbiter. -/
theorem writeRegister_arbiter {r : Register} (h : r ≠ .cmd) (v : Word) (s : State) :
    (writeRegister r v s).arbiter = s.arbiter := by
  refine (writeRegister_keeps r v s).arbiter ?_
  cases r with
  | cmd => exact absurd rfl h
  | _ => simp [registerBlocks]

/-- The end of a service shows the agenda that it leaves (R53). -/
theorem slotInv_endService {v : Service} (ok : SlotsOk v.after) (s : State) : SlotInv (endService v s) :=
  ⟨⟨ok.partition, ok.current⟩, fun _ hv => nomatch hv⟩

theorem slotInv_serving {v : Service} (inv : SlotInv s) (ok : SlotsOk v.after) : SlotInv (serving v s) :=
  ⟨inv.now, fun w hw => by cases hw; exact ok⟩

theorem slotInv_runTask (inv : SlotInv s) (k : Task) : SlotInv (runTask k s).1 :=
  inv.of_eq (runTask_agenda k s) (runTask_activity k s).1

theorem slotInv_advance {v : Service} (inv : SlotInv s) (hv : s.arbiter.activity = some v) :
    SlotInv (advance v s) := by
  have ok := inv.served v hv
  obtain ⟨-, e⟩ | ⟨k, ks, -, -, e⟩ | ⟨k, ks, -, -, e⟩ := advance_cases v s <;> rw [e]
  · exact slotInv_endService ok s
  · exact slotInv_endService ok _
  · exact slotInv_serving (slotInv_runTask inv k) ok

theorem withoutClaim_activity (c : Claim) (s : State) :
    (withoutClaim c s).arbiter.activity = s.arbiter.activity := by cases c <;> rfl

theorem slotInv_granted (inv : SlotInv s) (c : Claim) : SlotInv (granted c s) :=
  slotInv_serving (inv.of_eq (withoutClaim_agenda c s) (withoutClaim_activity c s))
    (inv.now.reworked (serviceFor_reworked c s))

theorem slotInv_firstRequest (inv : SlotInv s) : SlotInv (firstRequest s) := by
  obtain e | ⟨v, l, r, record, ks, hv, -, e⟩ := firstRequest_eq s <;> rw [e]
  · exact inv
  · exact slotInv_serving (inv.keeps (request_keeps l r s)) (inv.served v hv)

/-- Every elementary change keeps the slots. -/
theorem slotInv_move (s t : State) (m : Move s t) (inv : SlotInv s) : SlotInv t := by
  cases m with
  | quiet h => exact inv.keeps h
  | @register r h v =>
    obtain ⟨list, free, gens⟩ := writeRegister_agenda r v s
    exact inv.congr list free gens fun w hw => ⟨w, writeRegister_arbiter h v s ▸ hw, rfl⟩
  | timeRead => exact inv.keeps (readTimeLo_keeps s)
  | tick => exact inv.keeps (advanceTime_keeps s)
  | count => exact inv.keeps (withTimebase_keeps _ s)
  | guardEnd p => exact inv.keeps (guardEndIfReached_keeps p s)
  | trip g c => exact inv.of_eq (tripRequest_agenda g c s) (tripRequest_claims g c s).1
  | samplePhase => exact inv.keeps (withCapture_keeps _ s)
  | input => exact inv.keeps (setInput_keeps _ _ s)
  | capture n e x f => exact inv.keeps (offerCapture_keeps n e x f s)
  | matched => exact inv.keeps (setRow_keeps _ _ s)
  | reaction => exact inv.keeps (offerReaction_keeps _ s)
  | held h => exact inv.of_eq ((heldAnswer_keeps h s).agenda (by decide)) (heldAnswer_activity h s)
  | grant => exact slotInv_granted inv _
  | advance hv => exact slotInv_advance inv hv
  | firstRequest => exact slotInv_firstRequest inv

theorem slotInv_deviceReset (s : State) : SlotInv (deviceReset s) :=
  ⟨⟨by simp [deviceReset, State.reset, resetAgenda], fun _ mem => nomatch mem⟩, fun _ hv => nomatch hv⟩

theorem slotInv_step (s t : State) (inv : SlotInv s) (h : step s = .next t) : SlotInv t :=
  step_inv slotInv_move
    (fun v s inv => inv.of_eq ((writeCmd_keeps v s).agenda (by decide)) (writeCmd_activity v s))
    slotInv_deviceReset (fun _ _ inv => ⟨inv.now, inv.served⟩) inv h

theorem SlotsOk.count (ok : SlotsOk a) : a.free.length + a.list.length = 256 := by
  have := ok.partition.length_eq
  rwa [List.length_append, List.length_map, allSlots_length] at this

/-- A number below 65536 is what a word of it reads. -/
theorem toNat_numWord {n : Nat} (small : n < 65536) : (numWord n).toNat = n :=
  (toNat_fieldWord (by omega)).trans (Nat.mul_one n)

theorem readWord_freeCount (s : State) : readWord s 0x1A = numWord s.agenda.free.length := rfl

theorem readWord_pendingCount (s : State) : readWord s 0x1D = numWord s.agenda.list.length := rfl

/-- Settles O21: every elementary change keeps the slots; the free queue and the list then make 256. -/
theorem slotsKeptByEveryStep : Obligations.SlotsKeptByEveryStep := by
  refine ⟨slotInv_step, fun s inv => ?_⟩
  have count := inv.now.count
  have free := toNat_numWord (n := s.agenda.free.length) (by omega)
  have pending := toNat_numWord (n := s.agenda.list.length) (by omega)
  rw [readWord_freeCount, readWord_pendingCount, free, pending]
  exact ⟨rfl, rfl, count⟩

end Sys2Proof.Machine
end

section
/-! Chapters The Agenda, Reactions and Batches: the values of entries, and of the insertions on their way to the
agenda. An entry's values come from an insertion, and those from parameters checked at acceptance, from a row
checked at its ARM, or from a staged edit checked when it was staged (R16, R127, R146). -/

-- Each lemma waits for the ones before it: elaborated side by side they hold a thread each.
set_option Elab.async false

namespace Sys2Proof.Machine

variable {a b : Agenda} {e x : Entry} {s t : State} {ks : List Task}

@[simp] theorem getElem_mapAll {α β : Type} {n : Nat} (f : α → β) (v : Vector α n) (k : Nat) (h : k < n) :
    (mapAll f v)[k] = f v[k] := by
  simp [mapAll]

/-! ## Entries (R15) -/

/-- Work with valid insertions keeps the entries' values (R29, R31, R32, R44). -/
theorem Reworked.entriesOk (h : Reworked insertionOk ks a b) (ok : ∀ e ∈ a.list, entryOk e) :
    ∀ e ∈ b.list, entryOk e := by
  have out : ∀ {c : Agenda} (slot : BitVec 8), (∀ e ∈ c.list, entryOk e) →
      ∀ e ∈ (takeOut slot c).list, entryOk e := fun slot ok e mem => ok e (List.mem_of_mem_eraseP mem)
  induction h with
  | same => exact ok
  | inserted ks valid alloc handle entry =>
    intro y mem
    obtain rfl | mem := mem_placeIn.1 mem
    · exact entry valid
    · obtain ⟨slot, rest, -, -, rfl⟩ := allocate_cases alloc
      exact ok y mem
  | returned ks alloc =>
    obtain ⟨slot, rest, -, -, rfl⟩ := allocate_cases alloc
    exact ok
  | replaced ks mem handle entry =>
    intro y placed
    obtain rfl | placed := mem_placeIn.1 placed
    · exact entry (ok _ mem)
    · exact out _ ok y placed
  | ended mem told => exact out _ ok
  | removed told => exact fun y mem => ok y (List.mem_filter.1 mem).1
  | reset a told => exact fun y mem => nomatch mem
  | andThen _ _ ih₁ ih₂ => exact ih₂ (ih₁ ok)

/-- The insertion of a valid SCHEDULE record is valid (R127, R139). -/
theorem insertionOk_reactionInsertion {p : Template} (ok : templateOk p) (time : Time) :
    insertionOk (reactionInsertion time p) := by
  have width := p.width.isLt
  unfold insertionOk reactionInsertion jobOf
  dsimp only
  cases h : p.action with
  | pulse =>
    have : p.width.toNat ≠ 0 := fun n => ok h (BitVec.eq_of_toNat_eq n)
    exact ⟨⟨by omega, by omega, by simp [hasPeriod]⟩, trivial, rfl⟩
  | _ => exact ⟨trivial, trivial, rfl⟩

/-- The agenda that a service leaves holds entries of the values of R15. -/
theorem EntryInv.serviceFor (inv : EntryInv s) (c : Claim) : ∀ e ∈ (serviceFor c s).after.list, entryOk e := by
  refine Reworked.entriesOk (plan_reworked (v := takenBy c s) (fun _ => insertionOk_of_insertionOf)
    (fun i => inv.edits _) fun r taken kind => ?_) inv.entries
  refine insertionOk_reactionInsertion (inv.records r ?_ kind) _
  cases c with
  | reaction => exact List.mem_of_mem_head? taken
  | _ => cases taken

/-! ## Staged edits (R144, R146) -/

/-- Every staged edit is valid. -/
def stagingOk (s : State) : Prop := ∀ e ∈ s.batch.staging, editOk e

/-- The batch unit's answer to a valid edit leaves valid edits (R145). -/
theorem stagingOk_stage {d : Edit} (ok : editOk d) (inv : stagingOk s) : stagingOk (stage d s).2 := by
  have alone : stagingOk (withBatch (stagedBatch d (clearedBatch s.batch)) s) := fun e mem => by
    obtain rfl : e = d := by simpa [stagedBatch, clearedBatch] using mem
    exact ok
  unfold stage
  dsimp only
  split
  · exact alone
  · split
    · intro e mem
      obtain mem | rfl : e ∈ s.batch.staging ∨ e = d := by simpa [stagedBatch] using mem
      · exact inv e mem
      · exact ok
    · exact inv
  · exact inv
  · exact alone
  · exact alone
  · exact alone

theorem Answered.stagingOk {v : Word} (h : Answered v s t) (inv : stagingOk s) : stagingOk t := by
  have same : t.batch = s.batch → Machine.stagingOk t := fun e => by
    unfold Machine.stagingOk
    rw [e]
    exact inv
  cases h with
  | nothing => exact inv
  | request l r => exact same ((request_keeps l r s).batch (by decide))
  | start g => exact same ((startGroup_keeps g s).batch (by decide))
  | stop g => exact same ((stopGroup_keeps g s).batch (by decide))
  | release => exact same ((releaseGroup_keeps _ s).batch (by decide))
  | trip m => exact same ((tripMask_keeps m _ s).batch (by decide))
  | stage free ok => exact stagingOk_stage ok inv
  | commitNow => unfold Machine.commitNow; split <;> exact inv
  | commitEntry h =>
    unfold Machine.commitEntry
    split
    · split <;> exact inv
    all_goals exact inv
  | discard =>
    unfold Machine.discard
    split
    · exact inv
    · exact fun e mem => nomatch mem
    · exact fun e mem => nomatch mem
    all_goals exact inv

/-- A task leaves the staging, or empties it (R159). -/
theorem runTask_staging (k : Task) (s : State) :
    (runTask k s).1.batch.staging = s.batch.staging ∨ (runTask k s).1.batch.staging = [] := by
  cases k with
  | request l r x => exact .inl (by simp only [runTask]; rw [(request_keeps l r s).batch (by decide)])
  | offer r => exact .inl (by simp only [runTask]; rw [(offerReport_keeps r s).batch (by decide)])
  | allocated n => simp only [runTask]; split <;> exact .inl rfl
  | acted h => simp only [runTask, boundaryAct]; split <;> exact .inl rfl
  | gone h => simp only [runTask, boundaryGone]; split <;> exact .inl rfl
  | resetMoment => exact .inr rfl
  | endBatch e => cases e <;> exact .inl rfl
  | purged | complete => exact .inl rfl

theorem stagingOk_runTask (inv : stagingOk s) (k : Task) : stagingOk (runTask k s).1 := by
  unfold stagingOk
  obtain e | e := runTask_staging k s <;> rw [e]
  · exact inv
  · exact fun d mem => nomatch mem

/-! ## Rows and records (R127, R130, R135) -/

/-- Rows that are not OFF, and records of the FIFO, are valid. -/
structure ReactionsOk (u : ReactionUnit) : Prop where
  rows : ∀ k : Fin 16, rowOk u.rows[k]
  records : ∀ r ∈ u.fifo, recordOk r

/-- A row that takes the place of another and is valid. -/
theorem ReactionsOk.setRow (inv : ReactionsOk s.reactions) {r : Row} (ok : rowOk r) (k : Fin 16) :
    ReactionsOk (setRow k r s).reactions := by
  refine ⟨fun j => ?_, inv.records⟩
  by_cases same : k.val = j.val
  · simpa [Machine.setRow, Vector.getElem_set, same] using ok
  · simpa [Machine.setRow, Vector.getElem_set, same] using inv.rows j

/-- A row whose kind, template and mask stand stays valid where it was not OFF. -/
theorem rowOk_of_armed {r q : Row} (ok : rowOk r) (on : r.state ≠ .off) (kind : q.kind = r.kind)
    (template : q.template = r.template) (mask : q.groupMask = r.groupMask) : rowOk q := by
  intro _
  have := ok on
  unfold armRefused at this ⊢
  rwa [kind, template, mask]

/-- The record of a valid row is valid (R127, R135). -/
theorem recordOk_pendingRecord {r : Row} {p : PendingKind} (ok : rowOk r) (on : r.state ≠ .off)
    (kind : p = .schedule → r.kind = .schedule) (k : Fin 16) (time : Time) :
    recordOk (pendingRecord k p r time) := by
  intro schedule pulse
  have valid := ok on
  simp only [armRefused, kind schedule, decide_true, Bool.true_and, Bool.or_eq_false_iff,
    Bool.and_eq_false_iff, decide_eq_false_iff_not] at valid
  exact valid.1.resolve_left (fun n => n pulse)

theorem reactionsOk_offerReaction {r : PendingReaction} (inv : ReactionsOk s.reactions) (ok : recordOk r) :
    ReactionsOk (offerReaction r s).reactions := by
  obtain ⟨-, e⟩ | ⟨-, e⟩ := offerReaction_cases r s <;> rw [e]
  · refine ⟨inv.rows, fun q mem => ?_⟩
    obtain mem | rfl : q ∈ s.reactions.fifo ∨ q = r := by simpa using mem
    · exact inv.records q mem
    · exact ok
  · exact ⟨inv.rows, inv.records⟩

/-- A field write changes an OFF row alone, and that row stays OFF (R130). -/
theorem rowWithField_state {k : Fin 7} {v : Word} {r q : Row} (h : rowWithField k v r = some q) :
    q.state = r.state ∧ q.lastMatch = r.lastMatch := by
  unfold rowWithField at h
  dsimp only at h
  split at h
  · split at h <;> cases h
    exact ⟨rfl, rfl⟩
  · cases h; exact ⟨rfl, rfl⟩
  · split at h <;> cases h
    exact ⟨rfl, rfl⟩
  · cases h; exact ⟨rfl, rfl⟩
  · split at h <;> cases h
    exact ⟨rfl, rfl⟩
  · cases h; exact ⟨rfl, rfl⟩
  · cases h; exact ⟨rfl, rfl⟩

theorem reactionsOk_writeRowField (inv : ReactionsOk s.reactions) (k : Fin 7) (v : Word) :
    ReactionsOk (writeRowField k v s).reactions := by
  unfold writeRowField
  dsimp only
  split
  · rename_i off
    split
    · rename_i q written
      exact inv.setRow (fun on => absurd ((rowWithField_state written).1.trans off) on) _
    · exact inv
  · exact inv
  · exact inv

/-- ARM checks what makes a row valid; DISARM makes it OFF; REARM leaves its fields (R126, R127). -/
theorem reactionsOk_writeRow (inv : ReactionsOk s.reactions) (k : Fin 7) (v : Word) :
    ReactionsOk (writeRow k v s).reactions := by
  unfold writeRow
  split
  · split
    · unfold controlArm
      dsimp only
      split
      · split
        · exact inv
        · rename_i valid
          exact inv.setRow (fun _ => by simpa [armRefused] using valid) _
      · exact inv
      · exact inv
    · unfold controlDisarm
      dsimp only
      split
      · exact inv
      · exact inv.setRow (fun on => absurd rfl on) _
      · exact inv.setRow (fun on => absurd rfl on) _
    · unfold controlRearm
      dsimp only
      split
      · exact inv
      · exact inv
      · rename_i spent
        have ok : rowOk { selectedRow s with state := .armed } :=
          rowOk_of_armed (inv.rows s.reactions.sel)
            (by rw [show (s.reactions.rows[s.reactions.sel]).state = .spent from spent]; decide) rfl rfl rfl
        exact inv.setRow ok _
    · exact reactionsOk_writeRowField inv _ _
  · exact reactionsOk_writeRowField inv _ _

/-- The engine reset makes a SPENT row ARMED and leaves an OFF one (R142). -/
theorem reactionsOk_engineReset {u : ReactionUnit} (inv : ReactionsOk u) :
    ReactionsOk (engineResetReactions u) := by
  refine ⟨fun k => ?_, fun r mem => nomatch mem⟩
  simp only [engineResetReactions, Fin.getElem_fin, getElem_mapAll]
  intro on
  refine rowOk_of_armed (inv.rows k) (fun off => on ?_) rfl rfl rfl on
  simp only [engineResetRow, Fin.getElem_fin] at off ⊢
  rw [off]

theorem reactionsOk_writeRegister (inv : ReactionsOk s.reactions) (r : Register) (v : Word) :
    ReactionsOk (writeRegister r v s).reactions := by
  have same : .reactions ∉ registerBlocks r → ReactionsOk (writeRegister r v s).reactions := fun n => by
    rw [(writeRegister_keeps r v s).reactions n]
    exact inv
  cases r with
  | rowSel =>
    change ReactionsOk (writeRowSel v s).reactions
    unfold writeRowSel
    split
    · exact ⟨inv.rows, inv.records⟩
    · exact inv
  | reactStat => exact ⟨inv.rows, inv.records⟩
  | row k => exact reactionsOk_writeRow inv k v
  | _ => exact same (by simp [registerBlocks, portBlocks])

/-- A task leaves the reaction unit, or resets it (R142). -/
theorem runTask_reactions (k : Task) (s : State) : (runTask k s).1.reactions = s.reactions ∨
    (runTask k s).1.reactions = engineResetReactions s.reactions := by
  cases k with
  | request l r x => exact .inl ((request_keeps l r s).reactions (by decide))
  | offer r => exact .inl ((offerReport_keeps r s).reactions (by decide))
  | allocated n => simp only [runTask]; split <;> exact .inl rfl
  | acted h => exact .inl ((boundaryAct_keeps h s).reactions (by decide))
  | gone h => exact .inl ((boundaryGone_keeps h s).reactions (by decide))
  | resetMoment => exact .inr rfl
  | endBatch | purged | complete => exact .inl rfl

theorem reactionsOk_runTask (inv : ReactionsOk s.reactions) (k : Task) :
    ReactionsOk (runTask k s).1.reactions := by
  obtain e | e := runTask_reactions k s <;> rw [e]
  · exact inv
  · exact reactionsOk_engineReset inv

theorem reactionsOk_withoutClaim (inv : ReactionsOk s.reactions) (c : Claim) :
    ReactionsOk (withoutClaim c s).reactions := by
  cases c with
  | reaction => exact ⟨inv.rows, fun r mem => inv.records r (List.mem_of_mem_tail mem)⟩
  | _ => exact inv

/-! ## Every step keeps the values -/

theorem EntryInv.reactions (inv : EntryInv s) : ReactionsOk s.reactions := ⟨inv.rows, inv.records⟩

/-- What keeps the list, and the service under way, keeps EntryInv, where the staged edits, the rows and the
records stay valid. -/
theorem EntryInv.of_parts (inv : EntryInv s) (list : t.agenda.list = s.agenda.list) (staged : stagingOk t)
    (reactions : ReactionsOk t.reactions)
    (activity : ∀ v, t.arbiter.activity = some v → ∃ w, s.arbiter.activity = some w ∧ v.after = w.after) :
    EntryInv t := by
  refine ⟨list ▸ inv.entries, staged, reactions.rows, reactions.records, fun v hv => ?_⟩
  obtain ⟨w, hw, after⟩ := activity v hv
  rw [after]
  exact inv.served w hw

theorem EntryInv.of_eq (inv : EntryInv s) (agenda : t.agenda.list = s.agenda.list)
    (staging : t.batch.staging = s.batch.staging) (reactions : t.reactions = s.reactions)
    (activity : t.arbiter.activity = s.arbiter.activity) : EntryInv t := by
  refine inv.of_parts agenda ?_ (reactions ▸ inv.reactions) fun v hv => ⟨v, activity ▸ hv, rfl⟩
  unfold stagingOk
  rw [staging]
  exact inv.edits

theorem EntryInv.keeps {bs : List Block} (inv : EntryInv s) (k : Keeps bs s t)
    (n : .agenda ∉ bs ∧ .batch ∉ bs ∧ .reactions ∉ bs ∧ .arbiter ∉ bs := by simp) : EntryInv t :=
  inv.of_eq (by rw [k.agenda n.1]) (by rw [k.batch n.2.1]) (k.reactions n.2.2.1) (by rw [k.arbiter n.2.2.2])

/-- A write of a register other than CMD leaves the staging. -/
theorem writeRegister_staging {r : Register} (h : r ≠ .cmd) (v : Word) (s : State) :
    (writeRegister r v s).batch.staging = s.batch.staging := by
  have same : .batch ∉ registerBlocks r → (writeRegister r v s).batch.staging = s.batch.staging := fun n => by
    rw [(writeRegister_keeps r v s).batch n]
  cases r with
  | cmd => exact absurd rfl h
  | batchSel =>
    change (writeBatchSel v s).batch.staging = _
    unfold writeBatchSel
    split <;> rfl
  | _ => exact same (by simp [registerBlocks])

theorem entryInv_runTask (inv : EntryInv s) (k : Task) : EntryInv (runTask k s).1 :=
  inv.of_parts (by rw [runTask_agenda]) (stagingOk_runTask inv.edits k) (reactionsOk_runTask inv.reactions k)
    fun v hv => ⟨v, (runTask_activity k s).1 ▸ hv, rfl⟩

/-- The end of a service shows the agenda that it leaves (R53). -/
theorem EntryInv.endService {v : Service} (inv : EntryInv s) (ok : ∀ e ∈ v.after.list, entryOk e) :
    EntryInv (endService v s) :=
  ⟨ok, inv.edits, inv.rows, inv.records, fun _ hv => nomatch hv⟩

theorem EntryInv.serving {v : Service} (inv : EntryInv s) (ok : ∀ e ∈ v.after.list, entryOk e) :
    EntryInv (serving v s) :=
  ⟨inv.entries, inv.edits, inv.rows, inv.records, fun w hw => by cases hw; exact ok⟩

theorem entryInv_advance {v : Service} (inv : EntryInv s) (hv : s.arbiter.activity = some v) :
    EntryInv (advance v s) := by
  have ok := inv.served v hv
  obtain ⟨-, e⟩ | ⟨k, ks, -, -, e⟩ | ⟨k, ks, -, -, e⟩ := advance_cases v s <;> rw [e]
  · exact inv.endService ok
  · exact (entryInv_runTask inv k).endService ok
  · exact (entryInv_runTask inv k).serving ok

theorem entryInv_granted (inv : EntryInv s) (c : Claim) : EntryInv (granted c s) :=
  (inv.of_parts (by rw [withoutClaim_agenda]) (fun e mem => inv.edits e (by simpa using mem))
    (reactionsOk_withoutClaim inv.reactions c)
    fun v hv => ⟨v, withoutClaim_activity c s ▸ hv, rfl⟩ : EntryInv (withoutClaim c s)).serving (inv.serviceFor c)

theorem entryInv_firstRequest (inv : EntryInv s) : EntryInv (firstRequest s) := by
  obtain e | ⟨v, l, r, record, ks, hv, -, e⟩ := firstRequest_eq s <;> rw [e]
  · exact inv
  · exact (inv.keeps (request_keeps l r s)).serving (inv.served v hv)

/-- The answer to a held command, and the acceptance of one, reach the staging alone among what EntryInv is
about. -/
theorem EntryInv.answered {bs : List Block} (inv : EntryInv s) (k : Keeps bs s t)
    (staged : stagingOk t) (activity : t.arbiter.activity = s.arbiter.activity)
    (n : .agenda ∉ bs ∧ .reactions ∉ bs := by decide) : EntryInv t :=
  inv.of_parts (by rw [k.agenda n.1]) staged (k.reactions n.2 ▸ inv.reactions) fun w hw => ⟨w, activity ▸ hw, rfl⟩

theorem entryInv_heldAnswer (inv : EntryInv s) (h : Held) : EntryInv (heldAnswer h s) := by
  refine inv.answered (heldAnswer_keeps h s) ?_ (heldAnswer_activity h s)
  obtain e | ⟨-, -, code, u, e, answer⟩ := heldAnswer_cases h s <;> rw [e]
  · exact inv.edits
  · exact answer.stagingOk inv.edits

theorem Judged.stagingOk {v : Word} (h : Judged v s t) (inv : stagingOk s) : stagingOk t := by
  cases h with
  | handed | held => exact inv
  | completed code answer => exact answer.stagingOk inv

theorem entryInv_writeCmd (v : Word) (s : State) (inv : EntryInv s) : EntryInv (writeCmd v (judge v) s) := by
  refine inv.answered (writeCmd_keeps v s) ?_ (writeCmd_activity v s)
  obtain ⟨-, e⟩ | ⟨-, judged⟩ := writeCmd_cases v s
  · rw [e]; exact inv.edits
  · exact judged.stagingOk inv.edits

/-- Every elementary change keeps the values of entries and insertions. -/
theorem entryInv_move (s t : State) (m : Move s t) (inv : EntryInv s) : EntryInv t := by
  cases m with
  | quiet h => exact inv.keeps h
  | @register r h v =>
    refine inv.of_parts (writeRegister_agenda r v s).1 ?_ (reactionsOk_writeRegister inv.reactions r v)
      fun w hw => ⟨w, writeRegister_arbiter h v s ▸ hw, rfl⟩
    unfold stagingOk
    rw [writeRegister_staging h]
    exact inv.edits
  | timeRead => exact inv.keeps (readTimeLo_keeps s)
  | tick => exact inv.keeps (advanceTime_keeps s)
  | count => exact inv.keeps (withTimebase_keeps _ s)
  | guardEnd p => exact inv.keeps (guardEndIfReached_keeps p s)
  | trip g c =>
    have k := tripRequest_keeps g c s
    exact inv.of_eq (by rw [k.agenda (by decide)]) (by rw [k.batch (by decide)]) (k.reactions (by decide))
      (tripRequest_claims g c s).1
  | samplePhase => exact inv.keeps (withCapture_keeps _ s)
  | input => exact inv.keeps (setInput_keeps _ _ s)
  | capture n e x f => exact inv.keeps (offerCapture_keeps n e x f s)
  | matched armed x =>
    refine inv.of_parts rfl inv.edits (inv.reactions.setRow ?_ _) fun v hv => ⟨v, hv, rfl⟩
    exact rowOk_of_armed (inv.rows _) (by rw [armed]; decide) rfl rfl rfl
  | @reaction _ k p on kind x =>
    have keeps := offerReaction_keeps (pendingRecord k p s.reactions.rows[k] x) s
    refine inv.of_parts (by rw [keeps.agenda (by decide)]) ?_
      (reactionsOk_offerReaction inv.reactions (recordOk_pendingRecord (inv.rows _) on kind _ x))
      fun v hv => ⟨v, by rwa [← keeps.arbiter (by decide)], rfl⟩
    unfold stagingOk
    rw [keeps.batch (by decide)]
    exact inv.edits
  | held h => exact entryInv_heldAnswer inv h
  | grant => exact entryInv_granted inv _
  | advance hv => exact entryInv_advance inv hv
  | firstRequest => exact entryInv_firstRequest inv

theorem entryInv_deviceReset (s : State) : EntryInv (deviceReset s) := by
  refine ⟨fun _ mem => (nomatch mem), fun _ mem => (nomatch mem), fun k on => absurd ?_ on,
    fun _ mem => (nomatch mem), fun _ hv => (nomatch hv)⟩
  simp [deviceReset, State.reset, resetReactions, resetRow]

theorem entryInv_step (s t : State) (inv : EntryInv s) (h : step s = .next t) : EntryInv t :=
  step_inv entryInv_move entryInv_writeCmd entryInv_deviceReset
    (fun _ _ inv => ⟨inv.entries, inv.edits, inv.rows, inv.records, inv.served⟩) inv h

/-- Settles O22: every elementary change keeps the values of entries and of insertions. -/
theorem entriesKeptValidByEveryStep : Obligations.EntriesKeptValidByEveryStep := entryInv_step

end Sys2Proof.Machine
end

section
/-! Chapters Claims and Service Order, and Groups and Trips: what a service ends with (R48, R155, R175), and the
trip records (R86 to R101). -/

-- Each lemma waits for the ones before it: elaborated side by side they hold a thread each.
set_option Elab.async false

namespace Sys2Proof.Machine

variable {s t : State} {c : Claim} {k : Task} {ks : List Task}

/-! ## What a service ends with -/

/-- A service's tasks are requests, offers and notices, and then what its claim ends with. -/
def EndsWell (c : Claim) (todo : List Task) : Prop :=
  ∃ ks last, todo = ks ++ last ∧ (∀ k ∈ ks, agendaTask k) ∧ endsAs c last

theorem EndsWell.of_agendaTasks (h : ∀ k ∈ ks, agendaTask k) (last : endsAs c []) : EndsWell c ks :=
  ⟨ks, [], by simp, h, last⟩

theorem EndsWell.of_last (last : endsAs c ks) : EndsWell c ks := ⟨[], ks, rfl, by simp, last⟩

theorem EndsWell.cons (first : agendaTask k) (h : EndsWell c ks) : EndsWell c (k :: ks) := by
  obtain ⟨ms, last, rfl, tasks, ends⟩ := h
  exact ⟨k :: ms, last, rfl, by simpa [first] using tasks, ends⟩

/-- The first task of such a service: one of every service, the reset moment of an engine reset, or the last. -/
theorem EndsWell.cases_cons (h : EndsWell c (k :: ks)) :
    (agendaTask k ∧ EndsWell c ks) ∨ (k = .resetMoment ∧ c = .host ∧ EndsWell c ks) ∨
      (ks = [] ∧ endsAs c [k]) := by
  obtain ⟨_ | ⟨m, ms⟩, last, eq, tasks, ends⟩ := h
  · rw [List.nil_append] at eq
    subst eq
    cases c with
    | expiry | reaction => cases ends
    | purge g =>
      obtain ⟨n, eq⟩ := id ends
      cases eq
      exact .inr (.inr ⟨rfl, ends⟩)
    | apply =>
      obtain ⟨e, eq⟩ := id ends
      cases eq
      exact .inr (.inr ⟨rfl, ends⟩)
    | host =>
      obtain ⟨code, words, eq | eq⟩ := id ends <;> cases eq
      · exact .inr (.inr ⟨rfl, ends⟩)
      · exact .inr (.inl ⟨rfl, rfl, .of_last ⟨code, words, .inl rfl⟩⟩)
  · cases eq
    exact .inl ⟨tasks _ List.mem_cons_self, ms, last, rfl, fun q m => tasks q (List.mem_cons_of_mem _ m), ends⟩

/-- The offer that a task brings comes before the rest. -/
theorem EndsWell.offers (h : EndsWell c ks) (k : Task) (s : State) : EndsWell c ((runTask k s).2 ++ ks) := by
  obtain e | ⟨r, e⟩ := runTask_more k s <;> rw [e]
  · exact h
  · exact h.cons trivial

/-- What every kind of service ends with brings no offer. -/
theorem runTask_more_of_last (h : endsAs c [k]) (s : State) : (runTask k s).2 = [] := by
  cases c with
  | expiry | reaction => cases h
  | purge g => obtain ⟨n, eq⟩ := h; cases eq; rfl
  | apply => obtain ⟨e, eq⟩ := h; cases eq; rfl
  | host => obtain ⟨code, words, eq | eq⟩ := h <;> cases eq; rfl

/-- What is left of a service after its next move ends as the service does. -/
theorem EndsWell.rest (h : EndsWell c (k :: ks)) (more : (runTask k s).2 ++ ks ≠ []) :
    EndsWell c ((runTask k s).2 ++ ks) := by
  obtain ⟨-, rest⟩ | ⟨-, -, rest⟩ | ⟨rfl, last⟩ := h.cases_cons
  · exact rest.offers k s
  · exact rest.offers k s
  · exact absurd (by rw [runTask_more_of_last last]; rfl) more

/-- The request a service begins with leaves a service that ends as its claim does. -/
theorem EndsWell.afterRequest {l : Fin 16} {r : Request} {record : Option Report}
    (h : EndsWell c (.request l r record :: ks)) (s : State) :
    EndsWell c ((runTask (.request l r record) s).2 ++ ks) := by
  refine EndsWell.offers ?_ _ _
  obtain ⟨-, rest⟩ | ⟨eq, -⟩ | ⟨-, last⟩ := h.cases_cons
  · exact rest
  · cases eq
  · cases c with
    | host => obtain ⟨_, _, eq | eq⟩ := last <;> cases eq
    | expiry | reaction => cases last
    | purge | apply => obtain ⟨_, eq⟩ := last; cases eq

theorem endsWell_append {last : List Task} (tasks : ∀ k ∈ ks, agendaTask k) (ends : endsAs c last) :
    EndsWell c (ks ++ last) := ⟨ks, last, rfl, tasks, ends⟩

theorem endsWell_complete (code : ResultCode) (words : List Word) : EndsWell .host [.complete code words] :=
  .of_last ⟨code, words, .inl rfl⟩

theorem endsWell_answered {words : List Word} {w : Work} (tasks : ∀ k ∈ w.2, agendaTask k) :
    EndsWell .host (answered words w).2 :=
  endsWell_append tasks ⟨.ok, words, .inl rfl⟩

theorem endsWell_insertPlan (p : Vector Word 8) (reserve : Nat) (now : Time) (a : Agenda) :
    EndsWell .host (insertPlan p reserve now a).2 := by
  unfold insertPlan
  split
  · exact endsWell_complete _ _
  · split
    · exact endsWell_complete _ _
    · split
      · exact endsWell_complete _ _
      · split
        · exact endsWell_answered (insertEntry_tasks ‹_›)
        · exact endsWell_complete _ _

theorem endsWell_cancelPlan (p : Vector Word 8) (now : Time) (a : Agenda) :
    EndsWell .host (cancelPlan p now a).2 := by
  unfold cancelPlan
  split
  · exact endsWell_complete _ _
  · exact endsWell_complete _ _
  · exact endsWell_answered (removalTasks_task _ _ _)

theorem endsWell_retimePlan (p : Vector Word 8) (now : Time) (a : Agenda) :
    EndsWell .host (retimePlan p now a).2 := by
  unfold retimePlan
  dsimp only
  split
  · exact endsWell_complete _ _
  · exact endsWell_complete _ _
  · split
    · exact endsWell_complete _ _
    · rename_i w k
      obtain ⟨-, -, rfl⟩ := retimeEntry_cases k
      exact endsWell_answered (placeOrAct_tasks _ _ _)

theorem endsWell_hostPlan (port : CommandPort) (reserve : Nat) (now : Time) (a : Agenda) :
    EndsWell .host (hostPlan port reserve now a).2 := by
  unfold hostPlan
  split
  · exact endsWell_insertPlan _ _ _ _
  · exact endsWell_cancelPlan _ _ _
  · exact endsWell_retimePlan _ _ _
  · exact endsWell_answered (removeWhere_tasks _ _ _ _)
  · unfold queryPlan
    split <;> exact endsWell_complete _ _
  · unfold headPlan
    split <;> exact endsWell_complete _ _
  · exact .of_last ⟨.ok, [], .inr rfl⟩
  · exact endsWell_complete _ _

/-- Every service begins with tasks that end as its claim does (R48, R155, R175). -/
theorem endsWell_serviceFor (c : Claim) (s : State) : EndsWell c (serviceFor c s).todo := by
  change EndsWell c (plan (takenBy c s) s).2
  unfold plan
  cases c with
  | expiry =>
    refine .of_agendaTasks ?_ rfl
    dsimp only [takenBy]
    unfold expiryPlan
    split
    · simp
    · exact act_tasks _ _ _
  | purge g => exact endsWell_append (removeWhere_tasks _ _ _ _) ⟨_, rfl⟩
  | apply =>
    dsimp only [takenBy]
    unfold applyBatch
    dsimp only
    split
    · exact .of_last ⟨_, rfl⟩
    · exact endsWell_append (makeEdits_tasks (fun _ _ _ _ _ => makeEdit_tasks) ‹_›) ⟨_, rfl⟩
  | reaction =>
    refine .of_agendaTasks ?_ rfl
    dsimp only [takenBy]
    unfold reactionPlan
    split
    · simp
    · split
      · exact insertReaction_tasks _ _ _ _
      · exact removeWhere_tasks _ _ _ _
  | host => exact endsWell_hostPlan _ _ _ _

/-! ### Every step keeps the endings -/

theorem TodoOk.of_eq (inv : TodoOk s) (activity : t.arbiter.activity = s.arbiter.activity) : TodoOk t :=
  fun v hv => inv v (activity ▸ hv)

theorem todoOk_serving {v : Service} (h : EndsWell v.claim v.todo) (s : State) : TodoOk (serving v s) :=
  fun w hw => by cases hw; exact h

theorem todoOk_endService (v : Service) (s : State) : TodoOk (endService v s) := fun _ hv => nomatch hv

theorem TodoOk.head {v : Service} (inv : TodoOk s) (hv : s.arbiter.activity = some v) (todo : v.todo = k :: ks) :
    EndsWell v.claim (k :: ks) := todo ▸ inv v hv

theorem TodoOk.advance {v : Service} (inv : TodoOk s) (hv : s.arbiter.activity = some v) :
    TodoOk (advance v s) := by
  obtain ⟨-, e⟩ | ⟨k, ks, -, -, e⟩ | ⟨k, ks, todo, more, e⟩ := advance_cases v s <;> rw [e]
  · exact todoOk_endService _ _
  · exact todoOk_endService _ _
  · exact todoOk_serving (v := { v with todo := _ }) ((inv.head hv todo).rest more) _

theorem TodoOk.firstRequest (inv : TodoOk s) : TodoOk (firstRequest s) := by
  obtain e | ⟨v, l, r, record, ks, hv, todo, e⟩ := firstRequest_eq s <;> rw [e]
  · exact inv
  · exact todoOk_serving (v := { v with todo := _ }) ((inv.head hv todo).afterRequest s) _

theorem todoOk_granted (c : Claim) (s : State) : TodoOk (granted c s) :=
  todoOk_serving (endsWell_serviceFor c s) _

/-- A change that begins no service, advances none and answers no command leaves the service under way. -/
theorem Move.activity (m : Move s t) :
    t.arbiter.activity = s.arbiter.activity ∨ (∃ c, nextClaim s = some c ∧ t = granted c s) ∨
      (∃ v, s.arbiter.activity = some v ∧ t = Machine.advance v s) ∨ t = Machine.firstRequest s := by
  have same : ∀ {bs : List Block}, Keeps bs s t → .arbiter ∉ bs →
      t.arbiter.activity = s.arbiter.activity := fun k n => by rw [k.arbiter n]
  cases m with
  | quiet h => exact .inl (same h (by decide))
  | register h v => exact .inl (by rw [writeRegister_arbiter h])
  | tick => exact .inl (same (advanceTime_keeps s) (by decide))
  | guardEnd p => exact .inl (same (guardEndIfReached_keeps p s) (by decide))
  | trip g c => exact .inl (tripRequest_claims g c s).1
  | timeRead | count | samplePhase | input | matched => exact .inl rfl
  | capture n e x f => exact .inl (same (offerCapture_keeps n e x f s) (by decide))
  | reaction => exact .inl (same (offerReaction_keeps _ s) (by decide))
  | held h => exact .inl (heldAnswer_activity h s)
  | grant next => exact .inr (.inl ⟨_, next, rfl⟩)
  | advance hv => exact .inr (.inr (.inl ⟨_, hv, rfl⟩))
  | firstRequest => exact .inr (.inr (.inr rfl))

theorem todoOk_move (m : Move s t) (inv : TodoOk s) : TodoOk t := by
  obtain e | ⟨c, -, rfl⟩ | ⟨v, hv, rfl⟩ | rfl := m.activity
  · exact inv.of_eq e
  · exact todoOk_granted c s
  · exact inv.advance hv
  · exact inv.firstRequest

/-! ## Group records (R86, R96) -/

/-- Every group record is as R55, R86 and R96 give it. -/
def GroupsOk (s : State) : Prop := ∀ g : Fin 4, GroupOk g s

/-- GroupOk is about a group's state, causes and purge-pending, its purge claim and its purge service. -/
theorem GroupOk.congr {g : Fin 4} (h : GroupOk g s) (state : t.groups[g].state = s.groups[g].state)
    (causes : t.groups[g].causes = s.groups[g].causes)
    (first : t.groups[g].firstCause = s.groups[g].firstCause)
    (pending : t.groups[g].purgePending = s.groups[g].purgePending)
    (claim : t.arbiter.purge[g] = s.arbiter.purge[g]) (served : purging g t ↔ purging g s) : GroupOk g t := by
  constructor <;> simp only [state, causes, first, pending, claim, served]
  · exact h.noCause
  · exact h.someCause
  · exact h.pendingTripped
  · exact h.claimPending
  · exact h.servedPending
  · exact h.pendingClaim

/-- A group with nothing pending has no purge claim and no purge service. -/
theorem GroupOk.unclaimed {g : Fin 4} (h : GroupOk g s) (idle : s.groups[g].purgePending = false) :
    s.arbiter.purge[g] = false ∧ ¬ purging g s := by
  have no : s.groups[g].purgePending ≠ true := by rw [idle]; decide
  exact ⟨Bool.eq_false_iff.2 fun n => no (h.claimPending n), fun n => no (h.servedPending n).1⟩

/-- A group that is not TRIPPED has no purge pending. -/
theorem GroupOk.idle {g : Fin 4} (h : GroupOk g s) (untripped : s.groups[g].state ≠ .tripped) :
    s.groups[g].purgePending = false := Bool.eq_false_iff.2 fun n => untripped (h.pendingTripped n)

theorem purging_of_activity {g : Fin 4} (activity : t.arbiter.activity = s.arbiter.activity) :
    purging g t ↔ purging g s := by
  unfold purging
  rw [activity]

theorem GroupsOk.of_eq (h : GroupsOk s) (groups : t.groups = s.groups) (claims : t.arbiter.purge = s.arbiter.purge)
    (activity : t.arbiter.activity = s.arbiter.activity) : GroupsOk t := fun g =>
  (h g).congr (by rw [groups]) (by rw [groups]) (by rw [groups]) (by rw [groups]) (by rw [claims])
    (purging_of_activity activity)

theorem GroupsOk.keeps {bs : List Block} (h : GroupsOk s) (k : Keeps bs s t)
    (n : .groups ∉ bs ∧ .arbiter ∉ bs := by simp) : GroupsOk t :=
  h.of_eq (k.groups n.1) (by rw [k.arbiter n.2]) (by rw [k.arbiter n.2])

/-- A group's record takes the place of another; the other groups' records stand. -/
theorem GroupsOk.withGroup {g : Fin 4} {x : Group} (h : GroupsOk s) (own : GroupOk g (withGroup g x s)) :
    GroupsOk (withGroup g x s) := by
  intro j
  by_cases same : j = g
  · exact same ▸ own
  · have distinct : g.val ≠ j.val := fun n => same (Fin.ext n.symm)
    have stands : (Machine.withGroup g x s).groups[j] = s.groups[j] := by
      simp [Machine.withGroup, distinct]
    exact (h j).congr (by rw [stands]) (by rw [stands]) (by rw [stands]) (by rw [stands]) rfl Iff.rfl

@[simp] theorem withGroup_self (g : Fin 4) (x : Group) (s : State) : (withGroup g x s).groups[g] = x := by
  simp [withGroup]

/-- A record of a group that is not TRIPPED, before and after, where its causes stand. -/
theorem GroupsOk.withUntripped {g : Fin 4} {x : Group} (h : GroupsOk s) (before : s.groups[g].state ≠ .tripped)
    (after : x.state ≠ .tripped) (causes : x.causes = s.groups[g].causes)
    (pending : x.purgePending = s.groups[g].purgePending) : GroupsOk (Machine.withGroup g x s) := by
  have idle := (h g).idle before
  obtain ⟨unclaimed, unserved⟩ := (h g).unclaimed idle
  refine h.withGroup ⟨?_, ?_, ?_, ?_, ?_, ?_⟩ <;> simp only [withGroup_self, causes, pending, idle]
  · exact fun _ => (h g).noCause before
  · exact fun n => absurd n after
  · exact fun n => nomatch n
  · exact fun n => nomatch unclaimed.symm.trans n
  · exact fun n => absurd n unserved
  · exact fun n => nomatch n

theorem addCause_ne_noCauses (c : Cause) (x : CauseSet) : addCause c x ≠ noCauses := by
  cases c <;> simp [addCause, noCauses]

/-- A trip request sets purge-pending exactly where it raises the purge claim (R91). -/
theorem GroupsOk.tripRequest (h : GroupsOk s) (g : Fin 4) (c : Cause) : GroupsOk (tripRequest g c s) := by
  have groups := tripRequest_groups g c s
  have activity := (tripRequest_claims g c s).1
  intro j
  by_cases same : j = g
  · subst same
    have own : (Machine.tripRequest j c s).groups[j] = afterTripRequest c s.timebase.time s.groups[j] := by
      simp [groups]
    have claims := tripRequest_arbiter j c s
    cases state : s.groups[j].state with
    | off =>
      obtain e | ⟨run, -⟩ := claims
      · have own : (Machine.tripRequest j c s).groups[j] = s.groups[j] := by rw [own, afterTripRequest, state]
        exact (h j).congr (by rw [own]) (by rw [own]) (by rw [own]) (by rw [own]) (by rw [e])
          (purging_of_activity activity)
      · exact absurd (state.symm.trans run) (by decide)
    | tripped =>
      obtain e | ⟨run, -⟩ := claims
      · have own : (Machine.tripRequest j c s).groups[j] =
            { s.groups[j] with causes := addCause c s.groups[j].causes } := by
          rw [own, afterTripRequest, state]
          dsimp only
          rw [state]
        have old := h j
        refine ⟨?_, ?_, ?_, ?_, ?_, ?_⟩ <;>
          simp only [own, e, purging_of_activity activity, state]
        · exact fun n => absurd rfl n
        · exact fun _ => ⟨addCause_ne_noCauses c _, (old.someCause state).2⟩
        · exact fun _ => trivial
        · exact old.claimPending
        · exact old.servedPending
        · exact old.pendingClaim
      · exact absurd (state.symm.trans run) (by decide)
    | run =>
      have old := h j
      have notTripped : s.groups[j].state ≠ .tripped := by rw [state]; decide
      have idle := old.idle notTripped
      obtain ⟨unclaimed, unserved⟩ := old.unclaimed idle
      have own : (Machine.tripRequest j c s).groups[j] = { s.groups[j] with
          state := .tripped, causes := addCause c noCauses, firstCause := some c
          tripTime := s.timebase.time, purgePending := decide (s.groups[j].policy = .purge) } := by
        rw [own, afterTripRequest, state, idle, Bool.false_or]
      have claim : (Machine.tripRequest j c s).arbiter.purge[j] = decide (s.groups[j].policy = .purge) := by
        have policy : s.groups[j].policy = .hold → (Machine.tripRequest j c s).arbiter = s.arbiter := by
          intro hold
          obtain e | ⟨-, purge, -⟩ := claims
          · exact e
          · exact absurd (hold.symm.trans purge) (by decide)
        cases p : s.groups[j].policy with
        | hold => rw [policy p, unclaimed]; rfl
        | purge =>
          rw [Machine.tripRequest, state]
          dsimp only
          rw [tripEntry, p]
          simp [raisePurge]
      refine ⟨?_, ?_, ?_, ?_, ?_, ?_⟩ <;> simp only [own, claim, purging_of_activity activity]
      · exact fun n => absurd rfl n
      · exact fun _ => ⟨addCause_ne_noCauses c _, by simp⟩
      · exact fun _ => trivial
      · exact id
      · exact fun n => absurd n unserved
      · exact .inl
  · have distinct : g.val ≠ j.val := fun n => same (Fin.ext n.symm)
    have stands : (Machine.tripRequest g c s).groups[j] = s.groups[j] := by simp [groups, distinct]
    have claim : (Machine.tripRequest g c s).arbiter.purge[j] = s.arbiter.purge[j] := by
      obtain e | ⟨-, -, e⟩ := tripRequest_arbiter g c s <;> rw [e]
      simp [distinct]
    exact (h j).congr (by rw [stands]) (by rw [stands]) (by rw [stands]) (by rw [stands]) claim
      (purging_of_activity activity)

theorem GroupsOk.tripMask (h : GroupsOk s) (mask : Nat) (c : Cause) : GroupsOk (tripMask mask c s) := by
  refine foldl_inv (fun u g k => ?_) _ s h
  split
  · exact k.tripRequest g c
  · exact k

theorem GroupsOk.startGroup (h : GroupsOk s) (g : Fin 4) : GroupsOk (startGroup g s).2 := by
  unfold Machine.startGroup
  split
  · rename_i off
    split
    · exact h
    · exact h.withUntripped (by rw [off]; decide) (by simp) rfl rfl
  · exact h
  · exact h

theorem GroupsOk.stopGroup (h : GroupsOk s) (g : Fin 4) : GroupsOk (stopGroup g s).2 := by
  unfold Machine.stopGroup
  split
  · rename_i run
    exact h.withUntripped (by rw [run]; decide) (by simp) rfl rfl
  · exact h
  · exact h

/-- RELEASE ends a trip whose purge is done (R101). -/
theorem GroupsOk.releaseGroup (h : GroupsOk s) (g : Fin 4) : GroupsOk (releaseGroup g s).2 := by
  unfold Machine.releaseGroup
  split
  · exact h
  · exact h
  · split
    · exact h
    · split
      · exact h
      · rename_i done
        have done : s.groups[g].purgePending = false := by simpa using done
        obtain ⟨unclaimed, unserved⟩ := (h g).unclaimed done
        refine h.withGroup ⟨?_, ?_, ?_, ?_, ?_, ?_⟩ <;> simp only [withGroup_self, done]
        · exact fun _ => trivial
        · exact fun n => nomatch n
        · exact fun n => nomatch n
        · exact fun n => nomatch unclaimed.symm.trans n
        · exact fun n => absurd n unserved
        · exact fun n => nomatch n

theorem Answered.groupsOk {v : Word} (a : Answered v s t) (h : GroupsOk s) : GroupsOk t := by
  have same : ∀ {u : State}, u.groups = s.groups → u.arbiter.purge = s.arbiter.purge →
      u.arbiter.activity = s.arbiter.activity → GroupsOk u := fun x y z => h.of_eq x y z
  cases a with
  | nothing => exact h
  | request l r => exact h.keeps (request_keeps l r s)
  | start g => exact h.startGroup g
  | stop g => exact h.stopGroup g
  | release => exact h.releaseGroup _
  | trip m => exact h.tripMask m _
  | stage => exact h.keeps (stage_keeps _ s)
  | commitNow => unfold Machine.commitNow; split <;> exact same rfl rfl rfl
  | commitEntry x => exact h.keeps (commitEntry_keeps x s)
  | discard => unfold Machine.discard; split <;> exact same rfl rfl rfl

theorem Judged.groupsOk {v : Word} (j : Judged v s t) (h : GroupsOk s) : GroupsOk t := by
  cases j with
  | handed | held => exact h.of_eq rfl rfl rfl
  | completed code answer => exact (answer.groupsOk h).keeps (complete_keeps code [] _)

theorem groupsOk_writeCmd (v : Word) (h : GroupsOk s) : GroupsOk (writeCmd v (judge v) s) := by
  obtain ⟨-, e⟩ | ⟨-, judged⟩ := writeCmd_cases v s
  · rw [e]
    exact h.keeps (refuse_keeps _ _ s)
  · exact judged.groupsOk (h.of_eq rfl rfl rfl)

theorem groupsOk_heldAnswer (x : Held) (h : GroupsOk s) : GroupsOk (heldAnswer x s) := by
  obtain e | ⟨-, -, code, u, e, answer⟩ := heldAnswer_cases x s <;> rw [e]
  · exact h
  · exact (answer.groupsOk h).keeps (complete_keeps code [] u)

/-- A write of a group register keeps the records: its uses, policy and view are not of them (R87, R88). -/
theorem groupsOk_writeRegister {r : Register} (n : r ≠ .cmd) (v : Word) (h : GroupsOk s) :
    GroupsOk (writeRegister r v s) := by
  have same : .groups ∉ registerBlocks r → GroupsOk (writeRegister r v s) := fun k =>
    h.of_eq ((writeRegister_keeps r v s).groups k) (by rw [writeRegister_arbiter n])
      (by rw [writeRegister_arbiter n])
  cases r with
  | cmd => exact absurd rfl n
  | groupCfg g =>
    change GroupsOk (writeGroupCfg g v s)
    unfold writeGroupCfg
    split
    · rename_i off
      split
      · exact h.withUntripped (by rw [off]; decide) (by rw [off]; decide) rfl rfl
      · exact h.keeps (refuse_keeps _ _ s)
    · exact h.keeps (refuse_keeps _ _ s)
    · exact h.keeps (refuse_keeps _ _ s)
  | groupStat g =>
    change GroupsOk (writeGroupStat g v s)
    unfold writeGroupStat
    split
    · exact h.withGroup ((h g).congr (by simp) (by simp) (by simp) (by simp) rfl Iff.rfl)
    · exact h.keeps (refuse_keeps _ _ s)
  | _ => exact same (by simp [registerBlocks])

/-- A task of every service leaves the group records and the purge claims; so does what ends a batch or
completes a command. -/
theorem runTask_groups (h : agendaTask k ∨ (∃ e, k = .endBatch e) ∨ ∃ code words, k = .complete code words)
    (s : State) : (runTask k s).1.groups = s.groups ∧ (runTask k s).1.arbiter.purge = s.arbiter.purge := by
  obtain h | ⟨e, rfl⟩ | ⟨code, words, rfl⟩ := h
  · cases k with
    | request l r x =>
      have keeps := request_keeps l r s
      exact ⟨keeps.groups (by decide), congrArg _ (keeps.arbiter (by decide))⟩
    | offer r =>
      have keeps := offerReport_keeps r s
      exact ⟨keeps.groups (by decide), congrArg _ (keeps.arbiter (by decide))⟩
    | allocated n => simp only [runTask]; split <;> exact ⟨rfl, rfl⟩
    | acted x => simp only [runTask, boundaryAct]; split <;> exact ⟨rfl, rfl⟩
    | gone x => simp only [runTask, boundaryGone]; split <;> exact ⟨rfl, rfl⟩
    | purged | resetMoment | endBatch | complete => exact h.elim
  · exact ⟨rfl, rfl⟩
  · exact ⟨rfl, rfl⟩

theorem groupsOk_runTask (h : GroupsOk s)
    (task : agendaTask k ∨ (∃ e, k = .endBatch e) ∨ ∃ code words, k = .complete code words) :
    GroupsOk (runTask k s).1 :=
  h.of_eq (runTask_groups task s).1 (runTask_groups task s).2 (runTask_activity k s).1

/-- The service under way changes, its claim does not. -/
theorem GroupsOk.serving {v w : Service} (h : GroupsOk s) (hw : s.arbiter.activity = some w)
    (claim : v.claim = w.claim) : GroupsOk (serving v s) := fun g => by
  refine (h g).congr rfl rfl rfl rfl rfl ⟨?_, ?_⟩ <;> rintro ⟨u, hu, eq⟩
  · cases hu
    exact ⟨w, hw, claim ▸ eq⟩
  · exact ⟨v, rfl, claim.trans (Option.some.inj (hw.symm.trans hu) ▸ eq)⟩

/-- The end of a service that is no purge. -/
theorem GroupsOk.endService {v w : Service} (h : GroupsOk s) (hw : s.arbiter.activity = some w)
    (claim : ∀ g, w.claim ≠ .purge g) : GroupsOk (endService v s) := fun g => by
  refine (h g).congr rfl rfl rfl rfl rfl ⟨?_, ?_⟩ <;> rintro ⟨u, hu, eq⟩
  · cases hu
  · exact absurd (Option.some.inj (hw.symm.trans hu) ▸ eq) (claim g)

/-- The last task of a purge hands its number over and clears purge-pending (R48, R96). -/
theorem groupsOk_purged {v w : Service} {g : Fin 4} (h : GroupsOk s) (hw : s.arbiter.activity = some w)
    (claim : w.claim = .purge g) (n : Nat) : GroupsOk (endService v (runTask (.purged g n) s).1) := by
  have idle : ∀ j, ¬ purging j (endService v (runTask (.purged g n) s).1) := by
    rintro j ⟨u, hu, -⟩
    cases hu
  have served := h g
  have unclaimed := (served.servedPending ⟨w, hw, claim⟩).2
  intro j
  by_cases same : j = g
  · subst same
    have own : (endService v (runTask (.purged j n) s).1).groups[j] =
        { s.groups[j] with lastPurgeCount := n, purgePending := false } := withGroup_self _ _ _
    have claims : (endService v (runTask (.purged j n) s).1).arbiter.purge = s.arbiter.purge := rfl
    refine ⟨?_, ?_, ?_, ?_, ?_, ?_⟩ <;> simp only [own, claims, unclaimed]
    · exact served.noCause
    · exact served.someCause
    · exact fun m => nomatch m
    · exact fun m => nomatch m
    · exact fun m => absurd m (idle j)
    · exact fun m => nomatch m
  · have distinct : g.val ≠ j.val := fun m => same (Fin.ext m.symm)
    have stands : (endService v (runTask (.purged g n) s).1).groups[j] = s.groups[j] := by
      simp [endService, runTask, publish, distinct]
    refine (h j).congr (by rw [stands]) (by rw [stands]) (by rw [stands]) (by rw [stands]) rfl
      ⟨fun m => absurd m (idle j), ?_⟩
    rintro ⟨u, hu, eq⟩
    cases hw.symm.trans hu
    exact absurd (Claim.purge.inj (claim.symm.trans eq)) (fun m => same m.symm)

/-- The reset moment of an engine reset clears every purge-pending and withdraws every purge claim (R59,
R106). -/
theorem groupsOk_resetMoment {w : Service} (h : GroupsOk s) (hw : s.arbiter.activity = some w)
    (claim : w.claim = .host) : GroupsOk (runTask .resetMoment s).1 := by
  intro g
  have own : (runTask .resetMoment s).1.groups[g] = { s.groups[g] with purgePending := false } := by
    simp [runTask, engineReset, engineResetGroup]
  have claims : (runTask .resetMoment s).1.arbiter.purge[g] = false := by
    simp [runTask, engineReset, withdrawClaims]
  refine ⟨?_, ?_, ?_, ?_, ?_, ?_⟩ <;> simp only [own, claims]
  · exact (h g).noCause
  · exact (h g).someCause
  · exact fun m => nomatch m
  · exact fun m => nomatch m
  · rintro ⟨u, hu, eq⟩
    cases hw.symm.trans hu
    exact absurd (claim.symm.trans eq) (by simp)
  · exact fun m => nomatch m

/-- The next move of a service keeps the group records (R48, R53, R59). -/
theorem groupsOk_advance {v : Service} (todo : TodoOk s) (h : GroupsOk s) (hv : s.arbiter.activity = some v) :
    GroupsOk (advance v s) := by
  have still : ∀ k, (runTask k s).1.arbiter.activity = some v := fun k => (runTask_activity k s).1.trans hv
  obtain ⟨none, e⟩ | ⟨k, ks, eq, last, e⟩ | ⟨k, ks, eq, more, e⟩ := advance_cases v s <;> rw [e]
  · refine h.endService hv fun g purge => ?_
    obtain ⟨ms, ends, split, -, n, rfl⟩ := purge ▸ todo v hv
    rw [none] at split
    exact absurd split (by simp)
  · obtain rfl : ks = [] := (List.append_eq_nil_iff.1 last).2
    obtain ⟨task, rest⟩ | ⟨rfl, claim, rest⟩ | ⟨-, ends⟩ := (todo.head hv eq).cases_cons
    · refine (groupsOk_runTask h (.inl task)).endService (still k) fun g purge => ?_
      obtain ⟨ms, ends, split, -, n, rfl⟩ := purge ▸ rest
      exact absurd split (by simp)
    · exact (groupsOk_resetMoment h hv claim).endService (still _) fun g n => by simp [claim] at n
    · cases claim : v.claim <;> rw [claim] at ends
      case expiry | reaction => cases ends
      case purge g =>
        obtain ⟨n, eq⟩ := ends
        cases eq
        exact groupsOk_purged h hv claim n
      case apply =>
        obtain ⟨x, eq⟩ := ends
        cases eq
        exact (groupsOk_runTask h (.inr (.inl ⟨x, rfl⟩))).endService (still _) fun g n => by simp [claim] at n
      case host =>
        obtain ⟨code, words, eq | eq⟩ := ends <;> cases eq
        exact (groupsOk_runTask h (.inr (.inr ⟨code, words, rfl⟩))).endService (still _)
          fun g n => by simp [claim] at n
  · obtain ⟨task, -⟩ | ⟨rfl, claim, -⟩ | ⟨rfl, ends⟩ := (todo.head hv eq).cases_cons
    · exact (groupsOk_runTask h (.inl task)).serving (still k) rfl
    · exact (groupsOk_resetMoment h hv claim).serving (still _) rfl
    · exact absurd (by rw [runTask_more_of_last ends]; rfl) more

/-- A grant takes its own claim, and no other (R52). -/
theorem groupsOk_granted (h : GroupsOk s) (idle : s.arbiter.activity = none)
    (claimed : ∀ g, c = .purge g → s.arbiter.purge[g] = true) : GroupsOk (granted c s) := by
  have unserved : ∀ g, ¬ purging g s := by
    rintro g ⟨v, hv, -⟩
    exact absurd (hv.symm.trans idle) (by simp)
  have serves : ∀ g, purging g (granted c s) ↔ c = .purge g := fun g =>
    ⟨fun ⟨v, hv, eq⟩ => by cases hv; exact eq, fun eq => ⟨_, rfl, eq⟩⟩
  have groups : (granted c s).groups = s.groups := withoutClaim_groups c s
  intro g
  by_cases own : c = .purge g
  · subst own
    have pending := (h g).claimPending (claimed g rfl)
    have claim : (granted (.purge g) s).arbiter.purge[g] = false := by
      simp [granted, serving, withoutClaim]
    refine ⟨?_, ?_, ?_, ?_, ?_, ?_⟩ <;> simp only [groups, claim, serves, pending]
    · exact (h g).noCause
    · exact (h g).someCause
    · exact fun _ => (h g).pendingTripped pending
    · exact fun m => nomatch m
    · exact fun _ => ⟨trivial, trivial⟩
    · exact fun _ => .inr trivial
  · refine (h g).congr (by rw [groups]) (by rw [groups]) (by rw [groups]) (by rw [groups]) ?_
      ⟨fun m => absurd ((serves g).1 m) own, fun m => absurd m (unserved g)⟩
    cases c with
    | purge j =>
      have distinct : j.val ≠ g.val := fun m => own (by rw [Fin.ext m])
      simp [granted, serving, withoutClaim, distinct]
    | _ => rfl

/-- The arbiter grants a purge claim that waits (R52). -/
theorem nextClaim_purge {g : Fin 4} (h : nextClaim s = some (.purge g)) : s.arbiter.purge[g] = true := by
  unfold nextClaim at h
  split at h
  · cases h
  split at h
  · cases h
  split at h
  · rename_i j first
    cases h
    exact List.find?_some (p := fun g : Fin 4 => s.arbiter.purge[g]) first
  · split at h
    · cases h
    · split at h
      · cases h
      · split at h <;> cases h

theorem groupsOk_firstRequest (h : GroupsOk s) : GroupsOk (firstRequest s) := by
  obtain e | ⟨v, l, r, record, ks, hv, -, e⟩ := firstRequest_eq s <;> rw [e]
  · exact h
  · have keeps := request_keeps l r s
    exact (h.keeps keeps).serving (w := v) (by rw [keeps.arbiter (by decide)]; exact hv) rfl

/-- Every elementary change keeps the group records and the endings of services. -/
theorem groupInv_move (s t : State) (m : Move s t) (inv : GroupInv s) : GroupInv t := by
  refine ⟨todoOk_move m inv.1, ?_⟩
  have h : GroupsOk s := inv.2
  cases m with
  | quiet k => exact h.keeps k
  | register n v => exact groupsOk_writeRegister n v h
  | timeRead => exact h.keeps (readTimeLo_keeps s)
  | tick => exact h.keeps (advanceTime_keeps s)
  | guardEnd p => exact h.keeps (guardEndIfReached_keeps p s)
  | trip g c => exact h.tripRequest g c
  | count | samplePhase | input | matched => exact h.of_eq rfl rfl rfl
  | capture n e x f => exact h.keeps (offerCapture_keeps n e x f s)
  | reaction => exact h.keeps (offerReaction_keeps _ s)
  | held x => exact groupsOk_heldAnswer x h
  | grant next =>
    exact groupsOk_granted h (nextClaim_idle next).1 fun g eq => nextClaim_purge (eq ▸ next)
  | advance hv => exact groupsOk_advance inv.1 h hv
  | firstRequest => exact groupsOk_firstRequest h

theorem idle_groupsOk (idle : s.arbiter.activity = none) (groups : ∀ g : Fin 4, s.groups[g] = resetGroup)
    (claims : ∀ g : Fin 4, s.arbiter.purge[g] = false) : GroupsOk s := by
  intro g
  refine ⟨?_, ?_, ?_, ?_, ?_, ?_⟩ <;> simp only [groups, claims, resetGroup]
  · exact fun _ => trivial
  · exact fun n => nomatch n
  · exact fun n => nomatch n
  · exact fun n => nomatch n
  · rintro ⟨v, hv, -⟩
    exact absurd (hv.symm.trans idle) (by simp)
  · exact fun n => nomatch n

theorem groupInv_deviceReset (s : State) : GroupInv (deviceReset s) :=
  ⟨fun _ hv => (nomatch hv), idle_groupsOk rfl (by simp [deviceReset, State.reset])
    (by simp [deviceReset, State.reset, resetArbiter])⟩

/-- Settles O24: every elementary change keeps the trip records. -/
theorem groupsKeptByEveryStep : Obligations.GroupsKeptByEveryStep := fun _ _ =>
  step_inv groupInv_move
    (fun v s inv => ⟨inv.1.of_eq (writeCmd_activity v s), groupsOk_writeCmd v inv.2⟩) groupInv_deviceReset
    (fun s q inv => ⟨inv.1.of_eq rfl, GroupsOk.of_eq (s := s) (t := { s with pending := q }) inv.2 rfl rfl rfl⟩)

/-! ## Only RELEASE ends a trip (R101, R102) -/

/-- A group that is TRIPPED stays TRIPPED. -/
def StaysTripped (s t : State) : Prop := ∀ g : Fin 4, s.groups[g].state = .tripped → t.groups[g].state = .tripped

theorem StaysTripped.of_groups (groups : t.groups = s.groups) : StaysTripped s t := fun _ h => groups ▸ h

theorem StaysTripped.keeps {bs : List Block} (k : Keeps bs s t) (n : .groups ∉ bs := by simp) :
    StaysTripped s t := .of_groups (k.groups n)

theorem StaysTripped.withGroup {g : Fin 4} {x : Group}
    (own : s.groups[g].state = .tripped → x.state = .tripped) : StaysTripped s (withGroup g x s) := by
  intro j h
  by_cases same : j = g
  · subst same
    rw [withGroup_self]
    exact own h
  · have distinct : g.val ≠ j.val := fun n => same (Fin.ext n.symm)
    simpa [Machine.withGroup, distinct] using h

theorem staysTripped_tripRequest (g : Fin 4) (c : Cause) (s : State) : StaysTripped s (tripRequest g c s) := by
  intro j h
  rw [tripRequest_groups]
  by_cases same : j = g
  · subst same
    simp only [Fin.getElem_fin, Vector.getElem_set_self, afterTripRequest]
    split
    · exact h
    · exact h
    · trivial
  · have distinct : g.val ≠ j.val := fun n => same (Fin.ext n.symm)
    simpa [distinct] using h

theorem staysTripped_tripMask (mask : Nat) (c : Cause) (s : State) : StaysTripped s (tripMask mask c s) := by
  refine foldl_inv (P := StaysTripped s) (fun u g k => ?_) _ s fun _ => id
  split
  · exact fun j h => staysTripped_tripRequest g c u j (k j h)
  · exact k

theorem staysTripped_runTask (k : Task) (s : State) : StaysTripped s (runTask k s).1 := by
  cases k with
  | purged g n => exact .withGroup id
  | resetMoment => exact fun g h => by simpa [runTask, engineReset, engineResetGroup] using h
  | request l r x => exact .of_groups (runTask_groups (k := .request l r x) (.inl trivial) s).1
  | offer r => exact .of_groups (runTask_groups (k := .offer r) (.inl trivial) s).1
  | allocated n => exact .of_groups (runTask_groups (k := .allocated n) (.inl trivial) s).1
  | acted x => exact .of_groups (runTask_groups (k := .acted x) (.inl trivial) s).1
  | gone x => exact .of_groups (runTask_groups (k := .gone x) (.inl trivial) s).1
  | endBatch | complete => exact .of_groups rfl

theorem staysTripped_advance (v : Service) (s : State) : StaysTripped s (advance v s) := by
  obtain ⟨-, e⟩ | ⟨k, ks, -, -, e⟩ | ⟨k, ks, -, -, e⟩ := advance_cases v s <;> rw [e]
  · exact .of_groups rfl
  · exact staysTripped_runTask k s
  · exact staysTripped_runTask k s

/-- An answer leaves a TRIPPED group TRIPPED but where it is RELEASE's: then no LEVEL source is asserted and no
purge is pending, and the group is in RUN without causes (R101). -/
theorem Answered.staysTripped {v : Word} (a : Answered v s t) {g : Fin 4} (h : s.groups[g].state = .tripped) :
    t.groups[g].state = .tripped ∨
      (v = 0x13 ∧ s.port.params[0].toNat = g.val ∧ levelAsserted g s = false ∧
        s.groups[g].purgePending = false ∧ t.groups[g] = { s.groups[g] with state := .run, causes := noCauses }) := by
  cases a with
  | nothing => exact .inl h
  | request l r => exact .inl (StaysTripped.keeps (request_keeps l r s) (by simp) g h)
  | start j =>
    refine .inl ?_
    unfold Machine.startGroup
    split
    · rename_i off
      split
      · exact h
      · exact StaysTripped.withGroup (fun n => nomatch off.symm.trans n) g h
    · exact h
    · exact h
  | stop j =>
    refine .inl ?_
    unfold Machine.stopGroup
    split
    · rename_i run
      exact StaysTripped.withGroup (fun n => nomatch run.symm.trans n) g h
    · exact h
    · exact h
  | @release j code named =>
    unfold Machine.releaseGroup
    split
    · exact .inl h
    · exact .inl h
    · split
      · exact .inl h
      · split
        · exact .inl h
        · rename_i clear done
          by_cases same : j = g
          · subst same
            exact .inr ⟨code, named, by simpa using clear, by simpa using done, withGroup_self _ _ _⟩
          · have distinct : j.val ≠ g.val := fun n => same (Fin.ext n)
            exact .inl (by simpa [Machine.withGroup, distinct] using h)
  | trip m => exact .inl (staysTripped_tripMask m _ s g h)
  | stage => exact .inl (StaysTripped.keeps (stage_keeps _ s) (by simp) g h)
  | commitNow => exact .inl (StaysTripped.keeps (commitNow_keeps s) (by simp) g h)
  | commitEntry x => exact .inl (StaysTripped.keeps (commitEntry_keeps x s) (by simp) g h)
  | discard => exact .inl (StaysTripped.keeps (discard_keeps s) (by simp) g h)

theorem staysTripped_writeRegister {r : Register} (n : r ≠ .cmd) (v : Word) (s : State) :
    StaysTripped s (writeRegister r v s) := by
  have same : .groups ∉ registerBlocks r → StaysTripped s (writeRegister r v s) := fun k =>
    .keeps (writeRegister_keeps r v s) k
  cases r with
  | cmd => exact absurd rfl n
  | groupCfg g =>
    change StaysTripped s (writeGroupCfg g v s)
    unfold writeGroupCfg
    split
    · rename_i off
      split
      · exact .withGroup id
      · exact .keeps (refuse_keeps _ _ s)
    · exact .keeps (refuse_keeps _ _ s)
    · exact .keeps (refuse_keeps _ _ s)
  | groupStat g =>
    change StaysTripped s (writeGroupStat g v s)
    unfold writeGroupStat
    split
    · exact .withGroup id
    · exact .keeps (refuse_keeps _ _ s)
  | _ => exact same (by simp [registerBlocks])

/-- No elementary change ends a trip (R102). -/
theorem staysTripped_move (m : Move s t) : StaysTripped s t := by
  cases m with
  | quiet k => exact .keeps k
  | register n v => exact staysTripped_writeRegister n v s
  | timeRead => exact .keeps (readTimeLo_keeps s)
  | tick => exact .keeps (advanceTime_keeps s)
  | guardEnd p => exact .keeps (guardEndIfReached_keeps p s)
  | trip g c => exact staysTripped_tripRequest g c s
  | count | samplePhase | input | matched => exact .of_groups rfl
  | capture n e x f => exact .keeps (offerCapture_keeps n e x f s)
  | reaction => exact .keeps (offerReaction_keeps _ s)
  | held x =>
    obtain e | ⟨-, -, code, u, e, answer⟩ := heldAnswer_cases x s <;> rw [e]
    · exact fun _ => id
    · intro g h
      obtain h | ⟨code, -⟩ := answer.staysTripped h
      · exact h
      · exact absurd code (by decide)
  | grant => exact .of_groups (withoutClaim_groups _ s)
  | advance => exact staysTripped_advance _ s
  | firstRequest => exact .keeps (firstRequest_keeps s)

theorem staysTripped_moves (m : Moves s t) : StaysTripped s t := fun g h =>
  m.inv (P := fun u => u.groups[g].state = .tripped) (fun _ _ step k => staysTripped_move step g k) h

/-- A CMD write that ends a trip is a RELEASE at a READY port, taken (R101, R173). -/
theorem writeCmd_ends_trip {v : Word} {g : Fin 4} (before : s.groups[g].state = .tripped)
    (after : (writeCmd v (judge v) s).groups[g].state ≠ .tripped) :
    (writeCmd v (judge v) s).port.cmd = 0x13 ∧ s.port.waiting = false ∧ s.port.params[0].toNat = g.val ∧
      levelAsserted g s = false ∧ s.groups[g].purgePending = false ∧
      (writeCmd v (judge v) s).groups[g] = { s.groups[g] with state := .run, causes := noCauses } := by
  obtain ⟨-, e⟩ | ⟨ready, judged⟩ := writeCmd_cases v s
  · rw [e] at after
    exact absurd before after
  · generalize writeCmd v (judge v) s = t at judged after ⊢
    cases judged with
    | handed | held => exact absurd before after
    | completed code answer =>
      obtain stays | ⟨rfl, named, clear, done, own⟩ := answer.staysTripped (g := g) before
      · exact absurd stays after
      · refine ⟨?_, ready, named, clear, done, own⟩
        rw [complete]
        simp only [setCmdDone, withFlags_port, withPort_port]
        rw [answer.keeps.port (by decide)]
        rfl

/-- Settles O28: no elementary change ends a trip, and the acceptance of a command does so by RELEASE alone. -/
theorem groupLeavesTrippedOnlyByRelease : Obligations.GroupLeavesTrippedOnlyByRelease := by
  refine ⟨fun c s t g h before after => ?_, fun s t g idle h before => ?_⟩
  · obtain ⟨u, e, moves | ⟨v, rfl⟩ | ⟨reset, -⟩⟩ := exec_cases c s
    · obtain rfl := Host.Outcome.next.inj (h.symm.trans e)
      exact absurd (staysTripped_moves moves g before) after
    · obtain rfl := Host.Outcome.next.inj (h.symm.trans e)
      exact .inr (writeCmd_ends_trip before after)
    · exact .inl reset
  · unfold step at h
    rw [idle] at h
    obtain rfl := Host.Outcome.next.inj h
    exact staysTripped_moves (clockPeriod_moves s) g before

end Sys2Proof.Machine
end

section
/-! Chapter Output Lines and Interlocked Pairs: guard ends (R79), the writes that configure lines and pairs (R65,
R66, R76), and the interlock that every step keeps (R66 to R78). -/

-- Each lemma waits for the ones before it: elaborated side by side they hold a thread each.
set_option Elab.async false

namespace Sys2Proof.Machine

variable {s t : State} {p q : Fin 8}

/-! ## Frames -/

/-- A state whose other blocks stand is the old one with its own values in those blocks. -/
theorem Keeps.eq {bs : List Block} (k : Keeps bs s t) : t = {
    timebase := if Block.timebase ∈ bs then t.timebase else s.timebase
    agenda := if Block.agenda ∈ bs then t.agenda else s.agenda
    arbiter := if Block.arbiter ∈ bs then t.arbiter else s.arbiter
    lines := if Block.lines ∈ bs then t.lines else s.lines
    groups := if Block.groups ∈ bs then t.groups else s.groups
    capture := if Block.capture ∈ bs then t.capture else s.capture
    reactions := if Block.reactions ∈ bs then t.reactions else s.reactions
    batch := if Block.batch ∈ bs then t.batch else s.batch
    reports := if Block.reports ∈ bs then t.reports else s.reports
    port := if Block.port ∈ bs then t.port else s.port
    irq := if Block.irq ∈ bs then t.irq else s.irq
    pins := if Block.pins ∈ bs then t.pins else s.pins
    dataOut := if Block.dataOut ∈ bs then t.dataOut else s.dataOut
    pending := if Block.pending ∈ bs then t.pending else s.pending } := by
  have pick : ∀ {α : Type} (b : Block) (x y : α), (b ∉ bs → x = y) → x = if b ∈ bs then x else y :=
    fun b x y h => by split <;> simp_all
  obtain ⟨h0, h1, h2, h3, h4, h5, h6, h7, h8, h9, h10, h11, h12, h13⟩ := k
  exact (State.mk.injEq ..).mpr ⟨pick _ _ _ h0, pick _ _ _ h1, pick _ _ _ h2, pick _ _ _ h3,
    pick _ _ _ h4, pick _ _ _ h5, pick _ _ _ h6, pick _ _ _ h7, pick _ _ _ h8,
    pick _ _ _ h9, pick _ _ _ h10, pick _ _ _ h11, pick _ _ _ h12, pick _ _ _ h13⟩

/-! ## Guard ends (R79) -/

/-- Whether a pair stands at the end time of its guard. -/
def atGuardEnd (s : State) (p : Fin 8) : Bool :=
  match s.lines.pairs[p].running with
  | some w => w.endTime == s.timebase.time
  | none => false

/-- The line unit with the guards of these pairs ended: each IDLE, its deferred line ACTIVE. -/
def guardsEnded (ends : Fin 8 → Bool) (u : LineUnit) : LineUnit where
  lines := Vector.ofFn fun l : Fin 16 => { u.lines[l] with
    active := u.lines[l].active || ends (pairOf l) && deferredOn u.pairs[pairOf l] (sideOf l) }
  pairs := Vector.ofFn fun p : Fin 8 =>
    bif ends p then { u.pairs[p] with running := none, deferral := none } else u.pairs[p]

@[simp] theorem guardsEnded_line (ends : Fin 8 → Bool) (u : LineUnit) (l : Fin 16) :
    (guardsEnded ends u).lines[l] = { u.lines[l] with
      active := u.lines[l].active || ends (pairOf l) && deferredOn u.pairs[pairOf l] (sideOf l) } := by
  simp [guardsEnded]

@[simp] theorem guardsEnded_pair (ends : Fin 8 → Bool) (u : LineUnit) (p : Fin 8) :
    (guardsEnded ends u).pairs[p] =
      bif ends p then { u.pairs[p] with running := none, deferral := none } else u.pairs[p] := by
  simp [guardsEnded]

/-- Two line units with the same lines and pairs are one. -/
theorem LineUnit.ext' {u v : LineUnit} (lines : ∀ l : Fin 16, u.lines[l] = v.lines[l])
    (pairs : ∀ p : Fin 8, u.pairs[p] = v.pairs[p]) : u = v := by
  obtain ⟨ul, up⟩ := u
  obtain ⟨vl, vp⟩ := v
  simp only [LineUnit.mk.injEq]
  exact ⟨Vector.ext fun i h => lines ⟨i, h⟩, Vector.ext fun i h => pairs ⟨i, h⟩⟩

theorem setPair_pair (p q : Fin 8) (x : Pair) (s : State) :
    (setPair p x s).lines.pairs[q] = if q = p then x else s.lines.pairs[q] := by
  simp [setPair, Vector.getElem_set, Fin.ext_iff, eq_comm]

theorem setActive_line (l m : Fin 16) (active : Bool) (s : State) : (setActive l active s).lines.lines[m] =
    if m = l then { s.lines.lines[l] with active := active } else s.lines.lines[m] := by
  simp [setActive, Vector.getElem_set, Fin.ext_iff, eq_comm]

theorem guardsEnded_of_none {ends : Fin 8 → Bool} (u : LineUnit) (none : ∀ p, ends p = false) :
    guardsEnded ends u = u :=
  LineUnit.ext' (fun l => by simp [none, -Fin.getElem_fin]) fun p => by simp [none, -Fin.getElem_fin]

/-- A pair that is no longer in guard has no deferral left. -/
theorem deferredOn_idle (x : Pair) (side : Fin 2) :
    deferredOn { x with running := none, deferral := none } side = false := rfl

theorem guardsEnded_guardsEnded (a b : Fin 8 → Bool) (u : LineUnit) :
    guardsEnded a (guardsEnded b u) = guardsEnded (fun p => a p || b p) u := by
  refine LineUnit.ext' (fun l => ?_) fun p => ?_
  · simp only [guardsEnded_line, guardsEnded_pair]
    cases a (pairOf l) <;> cases b (pairOf l) <;> simp [deferredOn_idle]
  · simp only [guardsEnded_pair]
    cases a p <;> cases b p <;> rfl

/-- The guard end of a pair whose deferred line, if any, becomes ACTIVE (R79). -/
theorem guardEndIfReached_idle {w : PairWait} (guard : s.lines.pairs[p].running = some w)
    (reached : w.endTime = s.timebase.time) (alone : s.lines.pairs[p].deferral = none) :
    guardEndIfReached p s = setPair p { s.lines.pairs[p] with running := none } s := by
  unfold guardEndIfReached endGuard
  simp only [guard, reached, if_true, alone]

theorem guardEndIfReached_deferred {w d : PairWait} (guard : s.lines.pairs[p].running = some w)
    (reached : w.endTime = s.timebase.time) (deferral : s.lines.pairs[p].deferral = some d) :
    guardEndIfReached p s = setPair p { s.lines.pairs[p] with running := none, deferral := none }
      (setActive (lineOn p d.side) true s) := by
  unfold guardEndIfReached endGuard
  simp only [guard, reached, if_true, deferral]

theorem guardEndIfReached_elsewhere
    (elsewhere : ∀ w, s.lines.pairs[p].running = some w → w.endTime ≠ s.timebase.time) :
    guardEndIfReached p s = s := by
  unfold guardEndIfReached
  split
  · rename_i w guard
    exact if_neg (elsewhere w guard)
  · rfl

/-- Settles O47: the three cases of a guard end's row. -/
theorem guardEndActivatesTheDeferredLine : Obligations.GuardEndActivatesTheDeferredLine := by
  intro s p x
  refine ⟨fun w guard reached none => ?_, fun w d guard reached deferral => ?_, fun elsewhere => ?_⟩
  · exact congrArg _ (guardEndIfReached_idle guard reached none)
  · exact congrArg _ (guardEndIfReached_deferred guard reached deferral)
  · exact congrArg _ (guardEndIfReached_elsewhere elsewhere)

/-- A guard end ends the guard of its pair where the pair stands at its end, and of no other. -/
theorem guardEndIfReached_eq (p : Fin 8) (s : State) : guardEndIfReached p s =
    withLines (guardsEnded (fun q => decide (q = p) && atGuardEnd s p) s.lines) s := by
  by_cases reached : atGuardEnd s p = true
  · obtain ⟨w, guard, reached'⟩ : ∃ w, s.lines.pairs[p].running = some w ∧ w.endTime = s.timebase.time := by
      unfold atGuardEnd at reached
      split at reached
      · exact ⟨_, ‹_›, by simpa using reached⟩
      · cases reached
    have at_line : ∀ l : Fin 16, pairOf l = p → deferredOn s.lines.pairs[pairOf l] (sideOf l) = true →
        ∃ d, s.lines.pairs[p].deferral = some d ∧ l = lineOn p d.side := by
      rintro l rfl deferred
      obtain ⟨d, deferral, side⟩ := (deferredOn_iff _ _).1 deferred
      exact ⟨d, deferral, by rw [side, lineOn_pairOf_sideOf]⟩
    have eq : (guardEndIfReached p s).lines =
        guardsEnded (fun q => decide (q = p) && atGuardEnd s p) s.lines := by
      cases deferral : s.lines.pairs[p].deferral with
      | none =>
        rw [guardEndIfReached_idle guard reached' deferral]
        refine LineUnit.ext' (fun l => ?_) fun q => ?_
        · have none : ¬ (pairOf l = p ∧ deferredOn s.lines.pairs[pairOf l] (sideOf l) = true) := by
            rintro ⟨own, deferred⟩
            obtain ⟨d, n, -⟩ := at_line l own deferred
            exact nomatch deferral.symm.trans n
          rw [guardsEnded_line, reached, Bool.and_true]
          by_cases own : pairOf l = p
          · have no : deferredOn s.lines.pairs[pairOf l] (sideOf l) = false :=
              Bool.eq_false_iff.2 fun n => none ⟨own, n⟩
            rw [no, Bool.and_false, Bool.or_false]
            rfl
          · rw [decide_eq_false own, Bool.false_and, Bool.or_false]
            rfl
        · rw [setPair_pair, guardsEnded_pair, reached, Bool.and_true]
          by_cases own : q = p
          · subst own
            simp only [if_true, decide_true, cond_true, deferral]
          · rw [if_neg own, decide_eq_false own, cond_false]
      | some d =>
        rw [guardEndIfReached_deferred guard reached' deferral]
        refine LineUnit.ext' (fun l => ?_) fun q => ?_
        · change (setActive (lineOn p d.side) true s).lines.lines[l] = _
          rw [setActive_line, guardsEnded_line, reached, Bool.and_true]
          by_cases same : l = lineOn p d.side
          · subst same
            have deferred : deferredOn s.lines.pairs[p] d.side = true := (deferredOn_iff _ _).2 ⟨d, deferral, rfl⟩
            simp only [if_true, pairOf_lineOn, sideOf_lineOn, deferred, decide_true, Bool.true_and, Bool.or_true]
          · rw [if_neg same]
            have no : (decide (pairOf l = p) && deferredOn s.lines.pairs[pairOf l] (sideOf l)) = false := by
              by_contra n
              obtain ⟨own, deferred⟩ := Bool.and_eq_true_iff.1 (Bool.not_eq_false _ ▸ n)
              obtain ⟨x, hx, eq⟩ := at_line l (of_decide_eq_true own) deferred
              exact same (Option.some.inj (deferral.symm.trans hx) ▸ eq)
            rw [no, Bool.or_false]
        · rw [setPair_pair, guardsEnded_pair, reached, Bool.and_true]
          by_cases own : q = p
          · subst own
            rw [if_pos rfl, decide_eq_true rfl, cond_true]
          · rw [if_neg own, decide_eq_false own, cond_false]
            rfl
    have keeps := guardEndIfReached_keeps p s
    rw [← eq]
    exact keeps.eq
  · have elsewhere : ∀ w, s.lines.pairs[p].running = some w → w.endTime ≠ s.timebase.time := by
      intro w guard at_end
      refine reached ?_
      unfold atGuardEnd
      rw [guard]
      simpa using at_end
    rw [guardEndIfReached_elsewhere elsewhere, guardsEnded_of_none _ (by simp [reached])]
    rfl

/-- Once ended, a guard is not at its end again. -/
theorem atGuardEnd_guardsEnded (ends : Fin 8 → Bool) (s : State) (q : Fin 8) :
    atGuardEnd (withLines (guardsEnded ends s.lines) s) q = (atGuardEnd s q && !ends q) := by
  unfold atGuardEnd
  simp only [withLines_lines, guardsEnded_pair, withLines_timebase]
  cases ends q
  · simp
  · simp

/-- The guard ends of every pair that stands at its end. -/
theorem endReachedGuards_eq (s : State) :
    endReachedGuards s = withLines (guardsEnded (atGuardEnd s) s.lines) s := by
  have all : ∀ (l : List (Fin 8)) (s : State), l.foldl (fun t p => guardEndIfReached p t) s =
      withLines (guardsEnded (fun q => decide (q ∈ l) && atGuardEnd s q) s.lines) s := by
    intro l
    induction l with
    | nil =>
      intro s
      rw [guardsEnded_of_none _ (by simp)]
      rfl
    | cons p l ih =>
      intro s
      rw [List.foldl_cons, ih, guardEndIfReached_eq]
      have ends : (fun q => decide (q ∈ l) && (atGuardEnd s q && !(decide (q = p) && atGuardEnd s p)) ||
          decide (q = p) && atGuardEnd s p) = fun q => decide (q ∈ p :: l) && atGuardEnd s q := by
        funext q
        by_cases own : q = p
        · subst own
          cases atGuardEnd s q <;> simp
        · simp [own]
      simp only [atGuardEnd_guardsEnded, withLines_lines, guardsEnded_guardsEnded, ends]
      rfl
  unfold endReachedGuards
  rw [all]
  simp

theorem endReachedGuards_of_none (none : ∀ p, atGuardEnd s p = false) : endReachedGuards s = s := by
  rw [endReachedGuards_eq, guardsEnded_of_none _ none]
  rfl

theorem atGuardEnd_eq_false : atGuardEnd s p = false ↔
    ∀ w, s.lines.pairs[p].running = some w → w.endTime ≠ s.timebase.time := by
  unfold atGuardEnd
  split <;> simp_all

/-! ## The interlock (R66 to R78) -/

/-- A guard that does not end at this time is as near, or nearer, at the next. -/
theorem toNat_sub_succ_le {x now : Time} (h : x ≠ now) : (x - (now + 1)).toNat ≤ (x - now).toNat := by
  bv_omega

/-- After the guard ends of a tick no pair stands at its end. -/
theorem atGuardEnd_endReachedGuards (s : State) (p : Fin 8) : atGuardEnd (endReachedGuards s) p = false := by
  rw [endReachedGuards_eq, atGuardEnd_guardsEnded, Bool.and_not_self]

/-- A tick brings every guard one tick nearer its end (R78). -/
theorem PairInv.nextTime (h : PairInv s) (away : ∀ p, atGuardEnd s p = false) :
    PairInv (withTimebase { s.timebase with time := s.timebase.time + 1, phase := 0 } s) := by
  intro p
  have ok := h p
  exact { ok with
    guardNear := fun w guard =>
      (toNat_sub_succ_le (atGuardEnd_eq_false.1 (away p) w guard)).trans (ok.guardNear w guard) }

theorem pairInv_advanceTime (h : PairInv s) : PairInv (advanceTime s) :=
  (pairInv_endReachedGuards h).nextTime (atGuardEnd_endReachedGuards s)

theorem PairInv.lines {bs : List Block} (h : PairInv s) (k : Keeps bs s t) (time : t.timebase.time = s.timebase.time)
    (n : .lines ∉ bs := by simp [registerBlocks]) : PairInv t :=
  h.congr (k.lines n) time

theorem PairInv.keeps {bs : List Block} (h : PairInv s) (k : Keeps bs s t)
    (n : .lines ∉ bs ∧ .timebase ∉ bs := by simp [registerBlocks]) : PairInv t :=
  h.congr (k.lines n.1) (by rw [k.timebase n.2])

theorem pairInv_tripRequest (h : PairInv s) (g : Fin 4) (c : Cause) : PairInv (tripRequest g c s) := by
  unfold tripRequest
  dsimp only
  split
  · unfold tripEntry
    dsimp only
    have dropped : PairInv (dropDeferral (secondPair g) (dropDeferral (firstPair g)
        (withGroup g (trippedGroup s.groups[g] c s.timebase.time) s))) :=
      pairInv_dropDeferral (pairInv_dropDeferral (h.keeps (withGroup_keeps g _ s)) _) _
    split
    · exact dropped.congr rfl rfl
    · exact dropped.congr rfl rfl
  · exact h.keeps (withGroup_keeps g _ s)
  · exact h

theorem pairInv_tripMask (h : PairInv s) (mask : Nat) (c : Cause) : PairInv (tripMask mask c s) := by
  refine foldl_inv (P := PairInv) (fun u g k => ?_) _ s h
  split
  · exact pairInv_tripRequest k g c
  · exact k

/-- A LINE_CFG write leaves the intended level, and makes no pair of two ACTIVE safe levels (R65, R66). -/
theorem pairInv_writeLineCfg (h : PairInv s) (l : Fin 16) (v : Word) : PairInv (writeLineCfg l v s) := by
  unfold writeLineCfg
  split
  · split
    · rename_i safe _
      split
      · exact h.keeps (refuse_keeps _ _ s)
      · rename_i free
        have ok := h.at l _ rfl
        refine h.update l _ (configuredLine s.lines.lines[l] v safe) s.lines.pairs[pairOf l] rfl rfl
          (by simp) rfl { ok with notBothSafe := ?_ }
        rintro on ⟨own, partner⟩
        refine free ?_
        simp only [safeConflict, Bool.and_eq_true, decide_eq_true_eq]
        exact ⟨⟨own, on⟩, partner⟩
    · exact h.keeps (refuse_keeps _ _ s)
  · exact h.keeps (refuse_keeps _ _ s)
  · exact h.keeps (refuse_keeps _ _ s)

/-- A pair is as the rules give it after a PAIR_CFG write that is not refused (R76, R77). -/
theorem pairOk_configuredPair {v : Word} (h : PairInv s) (taken : pairRefused p v s = false) :
    PairOk s.lines.lines[lineOn p 0] s.lines.lines[lineOn p 1] (configuredPair s.lines.pairs[p] v)
      s.timebase.time := by
  have ok := h p
  simp only [pairRefused, Bool.or_eq_false_iff, decide_eq_false_iff_not, not_lt] at taken
  obtain ⟨range, switch⟩ := taken
  unfold configuredPair
  dsimp only
  split
  · rename_i same
    rw [← same] at switch
    exact {
      guardRange := range
      notBothActive := fun on => ok.notBothActive (same ▸ on)
      notBothSafe := fun on => ok.notBothSafe (same ▸ on)
      offIsIdle := fun off => ok.offIsIdle (same ▸ off)
      guardQuiet := ok.guardQuiet
      guardNear := ok.guardNear
      deferralMatches := ok.deferralMatches }
  · rename_i switched
    have fresh : bit v 15 = true →
        ¬ ((s.lines.lines[lineOn p 0].active = true ∧ s.lines.lines[lineOn p 1].active = true) ∨
          (s.lines.lines[lineOn p 0].safe = .active ∧ s.lines.lines[lineOn p 1].safe = .active)) := by
      intro on both
      have off : s.lines.pairs[p].interlock = false := by simpa [on] using switched
      rw [on, off] at switch
      simp only [Bool.not_false, Bool.and_true, Bool.true_and, Bool.or_eq_false_iff, Bool.and_eq_false_iff,
        decide_eq_false_iff_not] at switch
      obtain ⟨active, safe⟩ := switch
      obtain ⟨first, second⟩ | ⟨first, second⟩ := both
      · exact active.elim (fun n => nomatch n.symm.trans first) fun n => nomatch n.symm.trans second
      · exact safe.elim (fun n => n first) fun n => n second
    exact {
      guardRange := range
      notBothActive := fun on both => fresh on (.inl both)
      notBothSafe := fun on both => fresh on (.inr both)
      offIsIdle := fun _ => ⟨rfl, rfl⟩
      guardQuiet := fun w n => nomatch n
      guardNear := fun w n => nomatch n
      deferralMatches := fun d n => nomatch n }

theorem pairInv_writePairCfg (h : PairInv s) (p : Fin 8) (v : Word) : PairInv (writePairCfg p v s) := by
  unfold writePairCfg
  split
  · split
    · exact h.keeps (refuse_keeps _ _ s)
    · rename_i taken
      have ok := pairOk_configuredPair h (by simpa using taken)
      intro q
      by_cases own : q = p
      · subst own
        simpa using ok
      · have distinct : p.val ≠ q.val := fun n => own (Fin.ext n.symm)
        simpa [distinct] using h q
  · exact h.keeps (refuse_keeps _ _ s)
  · exact h.keeps (refuse_keeps _ _ s)

/-- What remains of a wait does not change when it is shifted with TIME (R81). -/
theorem shiftWait_remaining (w : PairWait) (x y : Time) : (shiftWait (y - x) w).endTime - y = w.endTime - x := by
  unfold shiftWait
  dsimp only
  ring

/-- A TIME_LO write shifts every wait with TIME (R9, R81). -/
theorem pairInv_writeTimeLo (h : PairInv s) (v : Word) : PairInv (writeTimeLo v s) := by
  unfold writeTimeLo
  split
  · dsimp only
    intro p
    have ok := h p
    simp only [withTimebase_lines, withLines_lines, withTimebase_timebase, Fin.getElem_fin, getElem_mapAll]
    refine ⟨ok.guardRange, ok.notBothActive, ok.notBothSafe, fun off => ?_, fun w guard => ?_,
      fun w guard => ?_, fun d deferral => ?_⟩
    · obtain ⟨guard, deferral⟩ := ok.offIsIdle off
      simp only [Fin.getElem_fin] at guard deferral
      simp [shiftPair, guard, deferral]
    · obtain ⟨x, guard, -⟩ := Option.map_eq_some_iff.1 guard
      exact ok.guardQuiet x guard
    · obtain ⟨x, old, rfl⟩ := Option.map_eq_some_iff.1 guard
      rw [shiftWait_remaining]
      exact ok.guardNear x old
    · obtain ⟨x, old, rfl⟩ := Option.map_eq_some_iff.1 deferral
      have guard := ok.deferralMatches x old
      simp only [Fin.getElem_fin] at guard
      simp [shiftPair, guard, shiftWait]
  · exact h.keeps (refuse_keeps _ _ s)

/-- The engine reset makes lines INACTIVE and pairs IDLE (R85). -/
theorem pairInv_engineReset (h : PairInv s) : PairInv (engineReset s) := by
  intro p
  have ok := h p
  simp only [engineReset, engineResetLines, Fin.getElem_fin, getElem_mapAll]
  exact {
    guardRange := ok.guardRange
    notBothActive := fun _ both => nomatch both.1
    notBothSafe := ok.notBothSafe
    offIsIdle := fun _ => ⟨rfl, rfl⟩
    guardQuiet := fun w n => nomatch n
    guardNear := fun w n => nomatch n
    deferralMatches := fun d n => nomatch n }

theorem Answered.pairInv {v : Word} (a : Answered v s t) (h : PairInv s) : PairInv t := by
  cases a with
  | nothing => exact h
  | request l r => exact pairInv_request h l r
  | start g => exact h.keeps (startGroup_keeps g s)
  | stop g => exact h.keeps (stopGroup_keeps g s)
  | release => exact h.keeps (releaseGroup_keeps _ s)
  | trip m => exact pairInv_tripMask h m _
  | stage => exact h.keeps (stage_keeps _ s)
  | commitNow => exact h.keeps (commitNow_keeps s)
  | commitEntry x => exact h.keeps (commitEntry_keeps x s)
  | discard => exact h.keeps (discard_keeps s)

theorem pairInv_writeCmd (v : Word) (s : State) (h : PairInv s) : PairInv (writeCmd v (judge v) s) := by
  obtain ⟨-, e⟩ | ⟨-, judged⟩ := writeCmd_cases v s
  · rw [e]
    exact h.keeps (refuse_keeps _ _ s)
  · generalize writeCmd v (judge v) s = t at judged ⊢
    cases judged with
    | handed => exact h.congr rfl rfl
    | held => exact h.congr rfl rfl
    | completed code answer =>
      exact (answer.pairInv (h.congr rfl rfl)).keeps (complete_keeps code [] _)

theorem pairInv_runTask (h : PairInv s) (k : Task) : PairInv (runTask k s).1 := by
  cases k with
  | request l r x => exact pairInv_request h l r
  | offer r => exact h.keeps (offerReport_keeps r s)
  | allocated n => simp only [runTask]; split <;> exact h
  | acted x => exact h.keeps (boundaryAct_keeps x s)
  | gone x => exact h.keeps (boundaryGone_keeps x s)
  | resetMoment => exact pairInv_engineReset h
  | purged | endBatch | complete => exact h.congr rfl rfl

theorem pairInv_advance (h : PairInv s) (v : Service) : PairInv (advance v s) := by
  obtain ⟨-, e⟩ | ⟨k, ks, -, -, e⟩ | ⟨k, ks, -, -, e⟩ := advance_cases v s <;> rw [e]
  · exact h.congr rfl rfl
  · exact (pairInv_runTask h k).congr rfl rfl
  · exact (pairInv_runTask h k).congr rfl rfl

theorem writeTbCtrlWord_time (v : Word) (s : State) : (writeTbCtrlWord v s).timebase.time = s.timebase.time := by
  unfold writeTbCtrlWord
  generalize (if bit v 8 = true then TickSource.external else TickSource.internal) = x
  unfold writeTbCtrl
  dsimp only
  split
  · split
    · split <;> rfl
    · rfl
  · split <;> rfl

theorem pairInv_writeRegister {r : Register} (n : r ≠ .cmd) (v : Word) (h : PairInv s) :
    PairInv (writeRegister r v s) := by
  have same : .lines ∉ registerBlocks r ∧ .timebase ∉ registerBlocks r → PairInv (writeRegister r v s) := fun k =>
    h.keeps (writeRegister_keeps r v s) k
  cases r with
  | cmd => exact absurd rfl n
  | tbCtrl => exact h.lines (writeTbCtrlWord_keeps v s) (writeTbCtrlWord_time v s)
  | timeHi => exact h.congr rfl rfl
  | timeLo => exact pairInv_writeTimeLo h v
  | lineCfg l => exact pairInv_writeLineCfg h l v
  | pairCfg p => exact pairInv_writePairCfg h p v
  | _ => exact same (by simp [registerBlocks])

/-- Every elementary change keeps the interlock. -/
theorem pairInv_move (s t : State) (m : Move s t) (h : PairInv s) : PairInv t := by
  cases m with
  | quiet k => exact h.keeps k
  | register n v => exact pairInv_writeRegister n v h
  | tick => exact pairInv_advanceTime h
  | guardEnd p => exact pairInv_guardEnd h p
  | trip g c => exact pairInv_tripRequest h g c
  | timeRead | count | samplePhase | input | matched => exact h.congr rfl rfl
  | capture n e x f => exact h.keeps (offerCapture_keeps n e x f s)
  | reaction => exact h.keeps (offerReaction_keeps _ s)
  | held x =>
    obtain e | ⟨-, -, code, u, e, answer⟩ := heldAnswer_cases x s <;> rw [e]
    · exact h
    · exact (answer.pairInv h).keeps (complete_keeps code [] u)
  | grant => exact h.congr (withoutClaim_lines _ s) (by rw [granted, serving, withArbiter_timebase, withoutClaim_timebase])
  | advance => exact pairInv_advance h _
  | firstRequest =>
    obtain e | ⟨v, l, r, record, ks, -, -, e⟩ := firstRequest_eq s <;> rw [e]
    · exact h
    · exact (pairInv_request h l r).congr rfl rfl

/-- Lines and pairs with their reset values. -/
theorem pairInv_of_resetLines (lines : s.lines = resetLines) : PairInv s := by
  intro p
  rw [lines]
  simp only [resetLines, Fin.getElem_fin, Vector.getElem_replicate]
  exact ⟨by decide, fun n => (nomatch n), fun n => (nomatch n), fun _ => ⟨rfl, rfl⟩, fun _ n => (nomatch n),
    fun _ n => (nomatch n), fun _ n => (nomatch n)⟩

theorem pairInv_step (s t : State) (h : PairInv s) (k : step s = .next t) : PairInv t :=
  step_inv pairInv_move pairInv_writeCmd (fun _ => pairInv_of_resetLines rfl) (fun _ _ inv => inv.congr rfl rfl) h k

/-! ## Output pins (R68) -/

/-- A pin in DRIVE at a level shows it only in RUN with that intended level, or in TRIPPED with that safe level. -/
theorem pinLevel_eq_active {x : Line} {g : GroupState} (h : pinLevel x g = levelFor x.polarity true) :
    (g = .run ∧ x.active = true) ∨ (g = .tripped ∧ x.safe = .active) := by
  unfold pinLevel at h
  split at h
  · cases polarity : x.polarity <;> simp [polarity, levelFor] at h
  · split at h
    · cases polarity : x.polarity <;> simp [polarity, levelFor] at h
    · refine .inl ⟨rfl, ?_⟩
      cases polarity : x.polarity <;> simpa [polarity, levelFor] using h
    · refine .inr ⟨rfl, ?_⟩
      split at h
      · cases polarity : x.polarity <;> simp [polarity, levelFor] at h
      · assumption
      · cases polarity : x.polarity <;> simp [polarity, levelFor] at h

theorem groupOf_lineOn (p : Fin 8) (side : Fin 2) : groupOf (lineOn p side) = groupOfPair p := by
  revert p side
  decide

/-- Settles O23: every elementary change keeps the interlock, and two active pins of a pair would be two ACTIVE
lines or two ACTIVE safe levels. -/
theorem pairsKeptByEveryStep : Obligations.PairsKeptByEveryStep := by
  refine ⟨pairInv_step, fun s l => ?_, fun s p inv on => ?_⟩
  · dsimp only
    unfold outPin pinLevel
    refine ⟨?_, fun mode run => ?_, fun mode tripped => ?_⟩
    · rintro (mode | off)
      · rw [mode]
      · rw [off]
        split <;> rfl
    · rw [mode, run]
      cases polarity : s.lines.lines[l].polarity <;> cases s.lines.lines[l].active <;> rfl
    · rw [mode, tripped]
      cases s.lines.lines[l].polarity <;> cases s.lines.lines[l].safe <;> rfl
  · rintro ⟨first, second⟩
    simp only [outPin, groupOf_lineOn] at first second
    obtain ⟨run, active⟩ | ⟨tripped, safe⟩ := pinLevel_eq_active first
    · obtain ⟨-, active'⟩ | ⟨tripped, -⟩ := pinLevel_eq_active second
      · exact (inv p).notBothActive on ⟨active, active'⟩
      · exact nomatch run.symm.trans tripped
    · obtain ⟨run, -⟩ | ⟨-, safe'⟩ := pinLevel_eq_active second
      · exact nomatch run.symm.trans tripped
      · exact (inv p).notBothSafe on ⟨safe, safe'⟩

end Sys2Proof.Machine
end

section
/-! Capacities and ranges (R22, R23, R107 to R120, R135, R136, R144, R165, R166, R169): each block's part of
CapacityInv, and what keeps it. -/

-- Each lemma waits for the ones before it: elaborated side by side they hold a thread each.
set_option Elab.async false

namespace Sys2Proof.Machine

variable {s t : State} {k : Task}

/-! ## The ranges of each block -/

/-- The capture unit within its capacity and ranges (R107, R109, R116, R117, R120). -/
structure CaptureInRange (c : CaptureUnit) : Prop where
  queue : c.queue.length ≤ Config.captureCapacity
  lost : c.lost ≤ Config.lostMax
  threshold : 1 ≤ c.threshold ∧ c.threshold ≤ Config.captureCapacity
  filterInt : 1 ≤ c.filterInt ∧ c.filterInt ≤ Config.filterIntMax
  samplePhase : c.samplePhase < c.filterInt
  inputs : ∀ n : Fin 8, inputOk c.inputs[n]

/-- The report queue within its capacity and ranges (R165, R166, R169). -/
structure ReportsInRange (q : ReportQueue) : Prop where
  queue : q.queue.length ≤ Config.reportCapacity
  lost : q.lost ≤ Config.lostMax
  threshold : 1 ≤ q.threshold ∧ q.threshold ≤ Config.reportCapacity

/-- The reaction FIFO within its capacity, its lost counter within 255 (R135, R136). -/
structure FifoInRange (u : ReactionUnit) : Prop where
  fifo : u.fifo.length ≤ Config.fifoCapacity
  lost : u.lost ≤ Config.lostMax

/-- RESERVE and POOL_LOW_TH in range (R22, R23). -/
structure AgendaInRange (a : Agenda) : Prop where
  reserve : a.reserve ≤ Config.reserveMax
  poolLow : a.poolLow ≤ Config.poolLowMax

/-- The phase below the prescale while RUNNING (R2). -/
def PhaseInRange (t : Timebase) : Prop := t.running = true → t.phase < prescaleOf t

/-- The staging within its capacity (R144). -/
def StagingInRange (b : BatchUnit) : Prop := b.staging.length ≤ Config.stagingCapacity

theorem CapacityInv.capture (inv : CapacityInv s) : CaptureInRange s.capture :=
  ⟨inv.captures, inv.captureLost, inv.captureThreshold, inv.filterInt, inv.samplePhase, inv.inputs⟩

theorem CapacityInv.reportQueue (inv : CapacityInv s) : ReportsInRange s.reports :=
  ⟨inv.reports, inv.reportLost, inv.reportThreshold⟩

theorem CapacityInv.reactions (inv : CapacityInv s) : FifoInRange s.reactions := ⟨inv.fifo, inv.reactionLost⟩

theorem CapacityInv.agenda (inv : CapacityInv s) : AgendaInRange s.agenda := ⟨inv.reserve, inv.poolLow⟩

theorem capacityInv_of_blocks (capture : CaptureInRange s.capture) (reports : ReportsInRange s.reports)
    (reactions : FifoInRange s.reactions) (staging : StagingInRange s.batch) (agenda : AgendaInRange s.agenda)
    (timebase : PhaseInRange s.timebase) : CapacityInv s :=
  ⟨capture.queue, capture.lost, capture.threshold, capture.filterInt, capture.samplePhase, capture.inputs,
    reports.queue, reports.lost, reports.threshold, reactions.fifo, reactions.lost, staging, agenda.reserve,
    agenda.poolLow, timebase⟩

/-- A change keeps the ranges where it keeps those of the blocks it reaches. -/
theorem CapacityInv.keeps {bs : List Block} (inv : CapacityInv s) (k : Keeps bs s t)
    (capture : .capture ∈ bs → CaptureInRange t.capture := by simp)
    (reports : .reports ∈ bs → ReportsInRange t.reports := by simp)
    (reactions : .reactions ∈ bs → FifoInRange t.reactions := by simp)
    (batch : .batch ∈ bs → StagingInRange t.batch := by simp)
    (agenda : .agenda ∈ bs → AgendaInRange t.agenda := by simp)
    (timebase : .timebase ∈ bs → PhaseInRange t.timebase := by simp) : CapacityInv t := by
  have pick : ∀ {α : Type} {P : α → Prop} {x y : α} (b : Block), (b ∉ bs → x = y) → (b ∈ bs → P x) → P y → P x :=
    fun b same reached old => by
      by_cases n : b ∈ bs
      · exact reached n
      · exact same n ▸ old
  exact capacityInv_of_blocks (pick .capture k.capture capture inv.capture)
    (pick .reports k.reports reports inv.reportQueue) (pick .reactions k.reactions reactions inv.reactions)
    (pick .batch k.batch batch inv.staging) (pick .agenda k.agenda agenda inv.agenda)
    (pick .timebase k.timebase timebase inv.phase)

theorem CapacityInv.of_blocks (inv : CapacityInv s) (capture : t.capture = s.capture)
    (reports : t.reports = s.reports) (reactions : t.reactions = s.reactions) (batch : t.batch = s.batch)
    (agenda : t.agenda = s.agenda) (timebase : t.timebase = s.timebase) : CapacityInv t :=
  capacityInv_of_blocks (capture ▸ inv.capture) (reports ▸ inv.reportQueue) (reactions ▸ inv.reactions)
    (batch ▸ inv.staging) (agenda ▸ inv.agenda) (timebase ▸ inv.phase)

/-! ## Captures and inputs -/

theorem CaptureInRange.offer (h : CaptureInRange s.capture) (n : Fin 8) (e : Edge) (x : Time) (f : Bool) :
    CaptureInRange (offerCapture n e x f s).capture := by
  obtain ⟨room, eq⟩ | ⟨-, eq⟩ := offerCapture_cases n e x f s <;> rw [eq]
  · exact { h with queue := by simpa [Config.captureCapacity] using Nat.succ_le_of_lt room }
  · exact { h with lost := Nat.min_le_left _ _ }

theorem CaptureInRange.setInput (h : CaptureInRange s.capture) {n : Fin 8} {i : Input} (ok : inputOk i) :
    CaptureInRange (setInput n i s).capture := by
  refine { h with inputs := fun m => ?_ }
  by_cases same : n.val = m.val
  · simpa [Machine.setInput, Vector.getElem_set, same] using ok
  · simpa [Machine.setInput, Vector.getElem_set, same] using h.inputs m

/-- A taken IN_CFG write discards a run whose input or filter it changes (R107, R108). -/
theorem inputOk_configuredInput {i : Input} {filter : Nat} (ok : inputOk i) (valid : filterOk filter = true)
    (enable : Bool) (e : EdgeSelect) (queued : Bool) : inputOk (configuredInput i enable e queued filter) := by
  obtain ⟨-, run, off⟩ := ok
  unfold configuredInput
  dsimp only
  split
  · exact ⟨valid, Nat.zero_le _, fun _ => rfl⟩
  · rename_i notEnabled
    split
    · exact ⟨valid, Nat.zero_le _, fun _ => rfl⟩
    · rename_i notDisabled
      split
      · exact ⟨valid, Nat.zero_le _, fun _ => rfl⟩
      · rename_i notChanged
        cases old : i.enable with
        | false =>
          have none := off old
          exact ⟨valid, by dsimp only; omega, fun _ => none⟩
        | true =>
          have on : enable = true := by simpa [old] using notDisabled
          have same : filter = i.filter := by simpa [old, on] using notChanged
          exact ⟨valid, by dsimp only; omega, fun n => nomatch on.symm.trans n⟩

theorem CaptureInRange.writeRegister (h : CaptureInRange s.capture) (r : Register) (v : Word) :
    CaptureInRange (writeRegister r v s).capture := by
  have same : .capture ∉ registerBlocks r → CaptureInRange (Machine.writeRegister r v s).capture := fun n => by
    rw [(writeRegister_keeps r v s).capture n]
    exact h
  cases r with
  | inCfg n =>
    change CaptureInRange (writeInCfg n v s).capture
    unfold writeInCfg
    split
    · split
      · exact h.setInput (inputOk_configuredInput (h.inputs n) ‹_› _ _ _)
      · exact h
    · exact h
  | filterInt =>
    change CaptureInRange (writeFilterInt v s).capture
    unfold writeFilterInt
    split
    · rename_i range
      exact { h with filterInt := range, samplePhase := range.1 }
    · exact h
  | capTh =>
    change CaptureInRange (writeCapTh v s).capture
    unfold writeCapTh
    split
    · rename_i range
      exact { h with threshold := range }
    · exact h
  | capStat => exact { h with lost := Nat.zero_le _ }
  | capPop =>
    change CaptureInRange (popCapture s).capture
    unfold popCapture
    split
    · exact h
    · rename_i first rest queue
      have length := h.queue
      rw [queue] at length
      exact { h with queue := (Nat.le_succ _).trans length }
  | _ => exact same (by simp [registerBlocks, portBlocks])

theorem CaptureInRange.engineReset {c : CaptureUnit} (h : CaptureInRange c) :
    CaptureInRange (engineResetCapture c) := { h with queue := Nat.zero_le _, lost := Nat.zero_le _ }

/-! ## Reports, reactions and the other registers in range -/

theorem ReportsInRange.offer (h : ReportsInRange s.reports) (r : Report) :
    ReportsInRange (offerReport r s).reports := by
  obtain ⟨room, eq⟩ | ⟨-, eq⟩ := offerReport_cases r s <;> rw [eq]
  · exact { h with queue := by simpa [Config.reportCapacity] using Nat.succ_le_of_lt room }
  · exact { h with lost := Nat.min_le_left _ _ }

theorem ReportsInRange.writeRegister (h : ReportsInRange s.reports) (r : Register) (v : Word) :
    ReportsInRange (writeRegister r v s).reports := by
  have same : .reports ∉ registerBlocks r → ReportsInRange (Machine.writeRegister r v s).reports := fun n => by
    rw [(writeRegister_keeps r v s).reports n]
    exact h
  cases r with
  | rptTh =>
    change ReportsInRange (writeRptTh v s).reports
    unfold writeRptTh
    split
    · rename_i range
      exact { h with threshold := range }
    · exact h
  | rptStat => exact { h with lost := Nat.zero_le _ }
  | rptPop =>
    change ReportsInRange (popReport s).reports
    unfold popReport
    split
    · exact h
    · rename_i first rest queue
      have length := h.queue
      rw [queue] at length
      exact { h with queue := (Nat.le_succ _).trans length }
  | _ => exact same (by simp [registerBlocks, portBlocks])

theorem FifoInRange.of_eq {u w : ReactionUnit} (h : FifoInRange u) (fifo : w.fifo = u.fifo) (lost : w.lost = u.lost) :
    FifoInRange w := ⟨fifo ▸ h.fifo, lost ▸ h.lost⟩

theorem FifoInRange.offer (h : FifoInRange s.reactions) (r : PendingReaction) :
    FifoInRange (offerReaction r s).reactions := by
  obtain ⟨room, eq⟩ | ⟨-, eq⟩ := offerReaction_cases r s <;> rw [eq]
  · exact { h with fifo := by simpa [Config.fifoCapacity] using Nat.succ_le_of_lt room }
  · exact { h with lost := Nat.min_le_left _ _ }

/-- A write of the row window leaves the FIFO and its lost counter (R130). -/
theorem writeRow_fifo (k : Fin 7) (v : Word) (s : State) : (writeRow k v s).reactions.fifo = s.reactions.fifo ∧
    (writeRow k v s).reactions.lost = s.reactions.lost := by
  have field : ∀ k, (writeRowField k v s).reactions.fifo = s.reactions.fifo ∧
      (writeRowField k v s).reactions.lost = s.reactions.lost := by
    intro k
    unfold writeRowField
    dsimp only
    split
    · split <;> exact ⟨rfl, rfl⟩
    · exact ⟨rfl, rfl⟩
    · exact ⟨rfl, rfl⟩
  unfold writeRow
  split
  · split
    · unfold controlArm
      dsimp only
      split
      · split <;> exact ⟨rfl, rfl⟩
      · exact ⟨rfl, rfl⟩
      · exact ⟨rfl, rfl⟩
    · unfold controlDisarm
      dsimp only
      split <;> exact ⟨rfl, rfl⟩
    · unfold controlRearm
      dsimp only
      split <;> exact ⟨rfl, rfl⟩
    · exact field 0
  · exact field k

theorem FifoInRange.writeRegister (h : FifoInRange s.reactions) (r : Register) (v : Word) :
    FifoInRange (writeRegister r v s).reactions := by
  have same : .reactions ∉ registerBlocks r → FifoInRange (Machine.writeRegister r v s).reactions := fun n => by
    rw [(writeRegister_keeps r v s).reactions n]
    exact h
  cases r with
  | rowSel =>
    change FifoInRange (writeRowSel v s).reactions
    unfold writeRowSel
    split <;> exact h.of_eq rfl rfl
  | row k => exact h.of_eq (writeRow_fifo k v s).1 (writeRow_fifo k v s).2
  | reactStat => exact { h with lost := Nat.zero_le _ }
  | _ => exact same (by simp [registerBlocks, portBlocks])

theorem AgendaInRange.writeRegister (h : AgendaInRange s.agenda) (r : Register) (v : Word) :
    AgendaInRange (writeRegister r v s).agenda := by
  have same : .agenda ∉ registerBlocks r → AgendaInRange (Machine.writeRegister r v s).agenda := fun n => by
    rw [(writeRegister_keeps r v s).agenda n]
    exact h
  cases r with
  | reserve =>
    change AgendaInRange (writeReserve v s).agenda
    unfold writeReserve
    split
    · rename_i range
      exact { h with reserve := range }
    · exact h
  | poolLow =>
    change AgendaInRange (writePoolLow v s).agenda
    unfold writePoolLow
    split
    · rename_i range
      exact { h with poolLow := range }
    · exact h
  | _ => exact same (by simp [registerBlocks, portBlocks])

/-! ## The timebase -/

/-- A start makes the phase 0 (R4). -/
theorem PhaseInRange.writeTbCtrl (h : PhaseInRange s.timebase) (run : Bool) (x : TickSource) (p : BitVec 8) :
    PhaseInRange (writeTbCtrl run x p s).timebase := by
  unfold Machine.writeTbCtrl
  dsimp only
  split
  · split
    · split
      · exact h
      · exact fun n => nomatch n
    · exact h
  · rename_i stopped
    split
    · exact fun _ => Nat.succ_pos _
    · exact fun n => absurd n stopped

theorem PhaseInRange.writeRegister (h : PhaseInRange s.timebase) (r : Register) (v : Word) :
    PhaseInRange (writeRegister r v s).timebase := by
  have same : .timebase ∉ registerBlocks r → PhaseInRange (Machine.writeRegister r v s).timebase := fun n => by
    rw [(writeRegister_keeps r v s).timebase n]
    exact h
  cases r with
  | tbCtrl => exact h.writeTbCtrl _ _ _
  | timeHi => exact h
  | timeLo =>
    change PhaseInRange (writeTimeLo v s).timebase
    unfold writeTimeLo
    split <;> exact h
  | _ => exact same (by simp [registerBlocks, portBlocks])

theorem phaseInRange_advanceTime (s : State) : PhaseInRange (advanceTime s).timebase := fun _ => Nat.succ_pos _

/-! ## The staging -/

theorem StagingInRange.stage (h : StagingInRange s.batch) (e : Edit) : StagingInRange (stage e s).2.batch := by
  unfold Machine.stage
  dsimp only
  split
  · exact (by decide : 1 ≤ 16)
  · split
    · rename_i room
      unfold StagingInRange
      simpa [stagedBatch] using room
    · exact h
  · exact h
  · exact (by decide : 1 ≤ 16)
  · exact (by decide : 1 ≤ 16)
  · exact (by decide : 1 ≤ 16)

theorem Answered.stagingInRange {v : Word} (a : Answered v s t) (h : StagingInRange s.batch) :
    StagingInRange t.batch := by
  have same : t.batch = s.batch → StagingInRange t.batch := fun e => e ▸ h
  cases a with
  | nothing => exact h
  | request l r => exact same ((request_keeps l r s).batch (by decide))
  | start g => exact same ((startGroup_keeps g s).batch (by decide))
  | stop g => exact same ((stopGroup_keeps g s).batch (by decide))
  | release => exact same ((releaseGroup_keeps _ s).batch (by decide))
  | trip m => exact same ((tripMask_keeps m _ s).batch (by decide))
  | stage => exact h.stage _
  | commitNow => unfold Machine.commitNow; split <;> exact h
  | commitEntry x =>
    unfold Machine.commitEntry
    split
    · split <;> exact h
    all_goals exact h
  | discard => unfold Machine.discard; split <;> first | exact h | exact Nat.zero_le _

/-! ## Every step keeps the ranges -/

theorem capacityInv_runTask (inv : CapacityInv s) (k : Task) : CapacityInv (runTask k s).1 := by
  cases k with
  | request l r x => exact inv.keeps (request_keeps l r s)
  | offer r => exact inv.keeps (offerReport_keeps r s) (reports := fun _ => inv.reportQueue.offer r)
  | allocated n => simp only [runTask]; split <;> exact inv.of_blocks rfl rfl rfl rfl rfl rfl
  | acted x =>
    refine inv.keeps (boundaryAct_keeps x s) (batch := fun _ => ?_)
    simp only [runTask, boundaryAct]
    split <;> exact inv.staging
  | gone x =>
    refine inv.keeps (boundaryGone_keeps x s) (batch := fun _ => ?_)
    simp only [runTask, boundaryGone]
    split <;> exact inv.staging
  | purged | complete => exact inv.of_blocks rfl rfl rfl rfl rfl rfl
  | resetMoment =>
    exact inv.keeps (engineReset_keeps s) (capture := fun _ => inv.capture.engineReset)
      (reports := fun _ => { inv.reportQueue with queue := Nat.zero_le _, lost := Nat.zero_le _ })
      (reactions := fun _ => ⟨Nat.zero_le _, Nat.zero_le _⟩) (batch := fun _ => Nat.zero_le _)
  | endBatch e =>
    exact capacityInv_of_blocks inv.capture inv.reportQueue inv.reactions
      (by cases e <;> exact inv.staging) inv.agenda inv.phase

theorem CapacityInv.endService (inv : CapacityInv s) (v : Service) : CapacityInv (endService v s) :=
  inv.keeps (endService_keeps v s) (agenda := fun _ => ⟨inv.reserve, inv.poolLow⟩)

theorem capacityInv_advance (inv : CapacityInv s) (v : Service) : CapacityInv (advance v s) := by
  obtain ⟨-, e⟩ | ⟨k, ks, -, -, e⟩ | ⟨k, ks, -, -, e⟩ := advance_cases v s <;> rw [e]
  · exact inv.endService v
  · exact (capacityInv_runTask inv k).endService v
  · exact (capacityInv_runTask inv k).keeps (serving_keeps _ _)

theorem FifoInRange.withoutClaim (h : FifoInRange s.reactions) (c : Claim) :
    FifoInRange (withoutClaim c s).reactions := by
  cases c with
  | reaction =>
    refine { h with fifo := ?_ }
    change s.reactions.fifo.tail.length ≤ _
    rw [List.length_tail]
    exact (Nat.sub_le _ 1).trans h.fifo
  | _ => exact h

theorem StagingInRange.answered {v : Word} (j : Judged v s t) (h : StagingInRange s.batch) :
    StagingInRange t.batch := by
  cases j with
  | handed | held => exact h
  | completed code answer => exact answer.stagingInRange h

theorem capacityInv_writeCmd (v : Word) (s : State) (inv : CapacityInv s) :
    CapacityInv (writeCmd v (judge v) s) := by
  refine inv.keeps (writeCmd_keeps v s) (capture := by simp [portBlocks]) (reports := by simp [portBlocks])
    (reactions := by simp [portBlocks]) (batch := fun _ => ?_) (agenda := by simp [portBlocks])
    (timebase := by simp [portBlocks])
  obtain ⟨-, e⟩ | ⟨-, judged⟩ := writeCmd_cases v s
  · rw [e]
    exact inv.staging
  · exact .answered judged inv.staging

theorem capacityInv_writeRegister {r : Register} (n : r ≠ .cmd) (v : Word) (inv : CapacityInv s) :
    CapacityInv (writeRegister r v s) :=
  capacityInv_of_blocks (inv.capture.writeRegister r v) (inv.reportQueue.writeRegister r v)
    (inv.reactions.writeRegister r v)
    (by unfold StagingInRange; rw [writeRegister_staging n]; exact inv.staging)
    (inv.agenda.writeRegister r v) (PhaseInRange.writeRegister inv.phase r v)

/-- Every elementary change keeps the capacities and ranges. -/
theorem capacityInv_move (s t : State) (m : Move s t) (inv : CapacityInv s) : CapacityInv t := by
  cases m with
  | quiet k => exact inv.keeps k
  | register n v => exact capacityInv_writeRegister n v inv
  | timeRead => exact inv.keeps (readTimeLo_keeps s) (timebase := fun _ => inv.phase)
  | tick => exact inv.keeps (advanceTime_keeps s) (timebase := fun _ => phaseInRange_advanceTime s)
  | count early =>
    exact inv.keeps (withTimebase_keeps _ s) (timebase := fun _ _ => Nat.lt_of_not_le (of_decide_eq_false early))
  | guardEnd p => exact inv.keeps (guardEndIfReached_keeps p s)
  | trip g c => exact inv.keeps (tripRequest_keeps g c s)
  | samplePhase h =>
    exact inv.keeps (withCapture_keeps _ s)
      (capture := fun _ => { inv.capture with samplePhase := h inv.filterInt.1 })
  | input ok =>
    exact inv.keeps (setInput_keeps _ _ s) (capture := fun _ => inv.capture.setInput (ok (inv.inputs _)))
  | capture n e x f => exact inv.keeps (offerCapture_keeps n e x f s) (capture := fun _ => inv.capture.offer n e x f)
  | matched => exact inv.keeps (setRow_keeps _ _ s) (reactions := fun _ => inv.reactions.of_eq rfl rfl)
  | reaction => exact inv.keeps (offerReaction_keeps _ s) (reactions := fun _ => inv.reactions.offer _)
  | held x =>
    refine inv.keeps (heldAnswer_keeps x s) (capture := by simp [portBlocks]) (reports := by simp [portBlocks])
      (reactions := by simp [portBlocks]) (batch := fun _ => ?_) (agenda := by simp [portBlocks])
      (timebase := by simp [portBlocks])
    obtain e | ⟨-, -, code, u, e, answer⟩ := heldAnswer_cases x s <;> rw [e]
    · exact inv.staging
    · exact answer.stagingInRange inv.staging
  | grant => exact inv.keeps (granted_keeps _ s) (reactions := fun _ => inv.reactions.withoutClaim _)
  | advance => exact capacityInv_advance inv _
  | firstRequest => exact inv.keeps (firstRequest_keeps s)

theorem capacityInv_reset : CapacityInv State.reset := by
  refine capacityInv_of_blocks ⟨by decide, by decide, by decide, by decide, by decide, fun n => ?_⟩
    ⟨by decide, by decide, by decide⟩ ⟨by decide, by decide⟩ ?_ ⟨by decide, by decide⟩ fun n => (nomatch n)
  · simp only [State.reset, resetCapture, Fin.getElem_fin, Vector.getElem_replicate]
    exact ⟨rfl, Nat.zero_le _, fun _ => rfl⟩
  · exact Nat.zero_le _

theorem capacityInv_deviceReset (s : State) : CapacityInv (deviceReset s) :=
  capacityInv_reset.of_blocks rfl rfl rfl rfl rfl rfl

/-- Settles O25: every elementary change keeps the capacities and ranges. -/
theorem capacitiesKeptByEveryStep : Obligations.CapacitiesKeptByEveryStep := fun _ _ =>
  step_inv capacityInv_move capacityInv_writeCmd capacityInv_deviceReset
    fun _ _ inv => inv.of_blocks rfl rfl rfl rfl rfl rfl

end Sys2Proof.Machine
end

section
/-! Chapters Commands and Batches: the command port is WAITING exactly while its command waits (R58, R172 to R176),
and an ARMED batch waits for its apply, is under it, or watches a pending entry (R143 to R150). -/

-- Each lemma waits for the ones before it: elaborated side by side they hold a thread each.
set_option Elab.async false

namespace Sys2Proof.Machine

variable {s t : State} {k : Task} {ks : List Task} {v w : Service}

/-! ## The command port -/

theorem hostServing_of_activity (activity : t.arbiter.activity = s.arbiter.activity) :
    hostServing t ↔ hostServing s := by
  unfold hostServing
  rw [activity]

theorem not_hostServing_of_claim (hv : s.arbiter.activity = some v) (claim : v.claim ≠ .host) : ¬ hostServing s := by
  rintro ⟨u, hu, eq⟩
  exact claim (Option.some.inj (hv.symm.trans hu) ▸ eq)

/-- What PortInv reads of the port stands, and so do the host claim and whether the host is served. -/
theorem PortInv.congr (inv : PortInv s) (waiting : t.port.waiting = s.port.waiting) (cmd : t.port.cmd = s.port.cmd)
    (result : t.port.result = s.port.result) (held : t.port.held = s.port.held)
    (host : t.arbiter.host = s.arbiter.host) (serves : hostServing t ↔ hostServing s) (todo : TodoOk t) :
    PortInv t := by
  refine ⟨?_, ?_, ?_, ?_, ?_, ?_, ?_, todo⟩ <;> simp only [waiting, cmd, result, held, host, serves]
  · exact inv.waitingFor
  · exact inv.claimWaits
  · exact inv.servingWaits
  · exact inv.heldWaits
  · exact inv.claimAlone
  · exact inv.servingAlone
  · exact inv.noResultYet

theorem PortInv.of_eq (inv : PortInv s) (port : t.port = s.port) (host : t.arbiter.host = s.arbiter.host)
    (activity : t.arbiter.activity = s.arbiter.activity) : PortInv t :=
  inv.congr (by rw [port]) (by rw [port]) (by rw [port]) (by rw [port]) host (hostServing_of_activity activity)
    (inv.completes.of_eq activity)

theorem PortInv.keeps {bs : List Block} (inv : PortInv s) (k : Keeps bs s t)
    (n : .port ∉ bs ∧ .arbiter ∉ bs := by simp) : PortInv t :=
  inv.of_eq (k.port n.1) (by rw [k.arbiter n.2]) (by rw [k.arbiter n.2])

/-- A READY port has no command that waits, is served or is held. -/
theorem PortInv.ready (inv : PortInv s) (ready : s.port.waiting = false) :
    s.arbiter.host = false ∧ ¬ hostServing s ∧ s.port.held = none := by
  have no : s.port.waiting ≠ true := by rw [ready]; decide
  exact ⟨Bool.eq_false_iff.2 fun n => no (inv.claimWaits n).1, fun n => no (inv.servingWaits n).1,
    not_not.1 fun n => no (inv.heldWaits n).1⟩

/-- The completion of a command that nothing else waits for (R175). -/
theorem portInv_complete (code : ResultCode) (words : List Word) (host : s.arbiter.host = false)
    (unserved : ¬ hostServing s) (todo : TodoOk s) : PortInv (complete code words s) where
  waitingFor := fun n => nomatch n
  claimWaits := fun n => nomatch host.symm.trans n
  servingWaits := fun n => absurd n unserved
  heldWaits := fun n => absurd rfl n
  claimAlone := fun n => nomatch host.symm.trans n
  servingAlone := fun n => absurd n unserved
  noResultYet := fun n => nomatch n
  completes := todo

/-- An agenda command waits at the arbiter; a held one waits for the batch unit (R58, R148, R150, R173). -/
theorem portInv_writeCmd (v : Word) (s : State) (inv : PortInv s) : PortInv (writeCmd v (judge v) s) := by
  obtain ⟨-, e⟩ | ⟨ready, judged⟩ := writeCmd_cases v s
  · rw [e]
    exact inv.keeps (refuse_keeps _ _ s)
  obtain ⟨host, unserved, held⟩ := inv.ready ready
  generalize writeCmd v (judge v) s = t at judged ⊢
  cases judged with
  | handed code =>
    exact {
      waitingFor := fun _ => .inl rfl
      claimWaits := fun _ => ⟨rfl, code⟩
      servingWaits := fun n => absurd n unserved
      heldWaits := fun n => absurd held n
      claimAlone := fun _ => ⟨unserved, held⟩
      servingAlone := fun n => absurd n unserved
      noResultYet := fun _ => rfl
      completes := inv.completes }
  | held h code =>
    exact {
      waitingFor := fun _ => .inr (.inr (Option.some_ne_none h))
      claimWaits := fun n => nomatch host.symm.trans n
      servingWaits := fun n => absurd n unserved
      heldWaits := fun _ => ⟨rfl, code⟩
      claimAlone := fun n => nomatch host.symm.trans n
      servingAlone := fun n => absurd n unserved
      noResultYet := fun _ => rfl
      completes := inv.completes }
  | completed code answer =>
    obtain ⟨activity, claim⟩ := answer.activity
    exact portInv_complete code [] (claim.trans host) (fun n => unserved ((hostServing_of_activity activity).1 n))
      (inv.completes.of_eq activity)

theorem portInv_heldAnswer (inv : PortInv s) (h : Held) : PortInv (heldAnswer h s) := by
  obtain e | ⟨held, idle, code, u, e, answer⟩ := heldAnswer_cases h s <;> rw [e]
  · exact inv
  · obtain ⟨activity, claim⟩ := answer.activity
    have unclaimed : s.arbiter.host = false :=
      Bool.eq_false_iff.2 fun n => nomatch (inv.claimAlone n).2.symm.trans held
    have unserved : ¬ hostServing s := fun ⟨v, hv, _⟩ => nomatch idle.symm.trans hv
    exact portInv_complete code [] (claim.trans unclaimed)
      (fun n => unserved ((hostServing_of_activity activity).1 n)) (inv.completes.of_eq activity)

/-- A task that does not complete the command leaves the port (R53). -/
theorem runTask_port (h : ∀ code words, k ≠ .complete code words) (s : State) : (runTask k s).1.port = s.port := by
  cases k with
  | request l r x => exact (request_keeps l r s).port (by decide)
  | offer r => exact (offerReport_keeps r s).port (by decide)
  | allocated n => simp only [runTask]; split <;> rfl
  | acted x => exact (boundaryAct_keeps x s).port (by decide)
  | gone x => exact (boundaryGone_keeps x s).port (by decide)
  | purged | resetMoment | endBatch => rfl
  | complete code words => exact absurd rfl (h code words)

theorem portInv_runTask (inv : PortInv s) (h : ∀ code words, k ≠ .complete code words) :
    PortInv (runTask k s).1 :=
  inv.of_eq (runTask_port h s) (runTask_activity k s).2 (runTask_activity k s).1

/-- A service of the same claim goes on. -/
theorem PortInv.serving (inv : PortInv s) (hw : s.arbiter.activity = some w) (claim : v.claim = w.claim)
    (todo : EndsWell v.claim v.todo) : PortInv (serving v s) := by
  refine inv.congr rfl rfl rfl rfl rfl ⟨?_, ?_⟩ (todoOk_serving todo _) <;> rintro ⟨u, hu, eq⟩
  · cases hu
    exact ⟨w, hw, claim ▸ eq⟩
  · exact ⟨v, rfl, claim.trans (Option.some.inj (hw.symm.trans hu) ▸ eq)⟩

/-- The end of a service that is not the host's. -/
theorem PortInv.endService (inv : PortInv s) (hw : s.arbiter.activity = some w) (claim : w.claim ≠ .host) :
    PortInv (endService v s) :=
  inv.congr rfl rfl rfl rfl rfl ⟨fun ⟨_, hu, _⟩ => (nomatch hu), fun n => absurd n (not_hostServing_of_claim hw claim)⟩
    (todoOk_endService v s)

/-- The last task of the host's service completes the command (R175). -/
theorem portInv_completed (inv : PortInv s) (hw : s.arbiter.activity = some w) (claim : w.claim = .host)
    (code : ResultCode) (words : List Word) : PortInv (endService v (runTask (.complete code words) s).1) := by
  have serves : hostServing s := ⟨w, hw, claim⟩
  have unclaimed : s.arbiter.host = false := Bool.eq_false_iff.2 fun n => (inv.claimAlone n).1 serves
  have unserved : ¬ hostServing (Machine.endService v (runTask (.complete code words) s).1) :=
    fun ⟨_, hu, _⟩ => nomatch hu
  exact {
    waitingFor := fun n => nomatch n
    claimWaits := fun n => nomatch unclaimed.symm.trans n
    servingWaits := fun n => absurd n unserved
    heldWaits := fun n => absurd rfl n
    claimAlone := fun n => nomatch unclaimed.symm.trans n
    servingAlone := fun n => absurd n unserved
    noResultYet := fun n => nomatch n
    completes := todoOk_endService v _ }

theorem agendaTask_ne_complete (h : agendaTask k) (code : ResultCode) (words : List Word) :
    k ≠ .complete code words := by
  rintro rfl
  exact h

theorem portInv_advance (inv : PortInv s) (hv : s.arbiter.activity = some v) : PortInv (advance v s) := by
  have still : ∀ k, (runTask k s).1.arbiter.activity = some v := fun k => (runTask_activity k s).1.trans hv
  have empty : v.todo = [] → v.claim ≠ .host := by
    intro none claim
    obtain ⟨ms, ends, split, -, code, words, rfl | rfl⟩ := claim ▸ inv.completes v hv <;> rw [none] at split <;>
      exact absurd split (by simp)
  obtain ⟨none, e⟩ | ⟨k, ks, eq, last, e⟩ | ⟨k, ks, eq, more, e⟩ := advance_cases v s <;> rw [e]
  · exact inv.endService hv (empty none)
  · obtain rfl : ks = [] := (List.append_eq_nil_iff.1 last).2
    have alone : EndsWell v.claim [] → v.claim ≠ .host := by
      rintro ⟨ms, ends, split, -, h⟩ claim
      rw [claim] at h
      obtain ⟨code, words, rfl | rfl⟩ := h <;> exact absurd split (by simp)
    obtain ⟨task, rest⟩ | ⟨-, claim, rest⟩ | ⟨-, ends⟩ := (inv.completes.head hv eq).cases_cons
    · exact (portInv_runTask inv (agendaTask_ne_complete task)).endService (still k) (alone rest)
    · exact absurd claim (alone rest)
    · cases claim : v.claim <;> rw [claim] at ends
      case expiry | reaction => cases ends
      case purge g =>
        obtain ⟨n, eq⟩ := ends
        cases eq
        exact (portInv_runTask inv (by simp)).endService (still _) (by simp [claim])
      case apply =>
        obtain ⟨x, eq⟩ := ends
        cases eq
        exact (portInv_runTask inv (by simp)).endService (still _) (by simp [claim])
      case host =>
        obtain ⟨code, words, eq | eq⟩ := ends <;> cases eq
        exact portInv_completed inv hv claim code words
  · have rest := (inv.completes.head hv eq).rest more
    refine PortInv.serving (v := { v with todo := _ }) (portInv_runTask inv ?_) (still k) rfl rest
    obtain ⟨task, -⟩ | ⟨rfl, -⟩ | ⟨rfl, ends⟩ := (inv.completes.head hv eq).cases_cons
    · exact agendaTask_ne_complete task
    · simp
    · exact absurd (by rw [runTask_more_of_last ends]; rfl) more

/-- The arbiter grants a host claim that waits (R52). -/
theorem nextClaim_host (h : nextClaim s = some .host) : s.arbiter.host = true := by
  unfold nextClaim at h
  split at h
  · cases h
  split at h
  · cases h
  split at h
  · cases h
  · split at h
    · cases h
    · split at h
      · cases h
      · split at h
        · assumption
        · cases h

theorem withoutClaim_host {c : Claim} (h : c ≠ .host) (s : State) :
    (withoutClaim c s).arbiter.host = s.arbiter.host := by
  cases c with
  | host => exact absurd rfl h
  | _ => rfl

theorem portInv_granted {c : Claim} (inv : PortInv s) (next : nextClaim s = some c) : PortInv (granted c s) := by
  have idle := (nextClaim_idle next).1
  have unserved : ¬ hostServing s := fun ⟨v, hv, _⟩ => nomatch idle.symm.trans hv
  have port : (granted c s).port = s.port := (granted_keeps c s).port (by decide)
  have todo := todoOk_granted c s
  by_cases host : c = .host
  · subst host
    obtain ⟨waiting, cmd⟩ := inv.claimWaits (nextClaim_host next)
    exact {
      waitingFor := fun _ => .inr (.inl ⟨_, rfl, rfl⟩)
      claimWaits := fun n => nomatch n
      servingWaits := fun _ => ⟨waiting, cmd⟩
      heldWaits := fun n => absurd (nextClaim_idle next).2 n
      claimAlone := fun n => nomatch n
      servingAlone := fun _ => (nextClaim_idle next).2
      noResultYet := inv.noResultYet
      completes := todo }
  · refine inv.congr (by rw [port]) (by rw [port]) (by rw [port]) (by rw [port]) (withoutClaim_host host s)
      ⟨fun ⟨u, hu, eq⟩ => ?_, fun n => absurd n unserved⟩ todo
    cases hu
    exact absurd eq host

theorem portInv_writeRegister {r : Register} (n : r ≠ .cmd) (v : Word) (inv : PortInv s) :
    PortInv (writeRegister r v s) := by
  have arbiter := writeRegister_arbiter n v s
  have same : .port ∉ registerBlocks r → PortInv (writeRegister r v s) := fun k =>
    inv.of_eq ((writeRegister_keeps r v s).port k) (by rw [arbiter]) (by rw [arbiter])
  cases r with
  | cmd => exact absurd rfl n
  | param k =>
    change PortInv (writeParam k v s)
    unfold writeParam
    split
    · exact inv.keeps (refuse_keeps _ _ s)
    · exact inv.congr rfl rfl rfl rfl rfl Iff.rfl inv.completes
  | _ => exact same (by simp [registerBlocks])

theorem portInv_firstRequest (inv : PortInv s) : PortInv (firstRequest s) := by
  obtain e | ⟨v, l, r, record, ks, hv, todo, e⟩ := firstRequest_eq s <;> rw [e]
  · exact inv
  · exact PortInv.serving (v := { v with todo := _ }) (portInv_runTask (k := .request l r record) inv (by simp))
      ((runTask_activity (.request l r record) s).1.trans hv) rfl ((inv.completes.head hv todo).afterRequest s)

/-- Every elementary change keeps the port. -/
theorem portInv_move (s t : State) (m : Move s t) (inv : PortInv s) : PortInv t := by
  cases m with
  | quiet k => exact inv.keeps k
  | register n v => exact portInv_writeRegister n v inv
  | timeRead => exact inv.keeps (readTimeLo_keeps s)
  | tick => exact inv.keeps (advanceTime_keeps s)
  | guardEnd p => exact inv.keeps (guardEndIfReached_keeps p s)
  | trip g c =>
    obtain ⟨activity, -, host⟩ := tripRequest_claims g c s
    exact inv.of_eq ((tripRequest_keeps g c s).port (by decide)) host activity
  | count | samplePhase | input | matched => exact inv.of_eq rfl rfl rfl
  | capture n e x f => exact inv.keeps (offerCapture_keeps n e x f s)
  | reaction => exact inv.keeps (offerReaction_keeps _ s)
  | held x => exact portInv_heldAnswer inv x
  | grant next => exact portInv_granted inv next
  | advance hv => exact portInv_advance inv hv
  | firstRequest => exact portInv_firstRequest inv

theorem portInv_deviceReset (s : State) : PortInv (deviceReset s) where
  waitingFor := fun n => nomatch n
  claimWaits := fun n => nomatch n
  servingWaits := fun ⟨_, hv, _⟩ => nomatch hv
  heldWaits := fun n => absurd rfl n
  claimAlone := fun n => nomatch n
  servingAlone := fun _ => rfl
  noResultYet := fun n => nomatch n
  completes := fun _ hv => nomatch hv

/-- Settles O26: every elementary change keeps the port. -/
theorem portKeptByEveryStep : Obligations.PortKeptByEveryStep := fun _ _ =>
  step_inv portInv_move portInv_writeCmd portInv_deviceReset fun _ _ inv => inv.of_eq rfl rfl rfl

end Sys2Proof.Machine
end

section
/-! Chapter Batches: an ARMED batch is in exactly one of the conditions of R143, and the boundary entry it watches is
pending, or the service under way has a notice of it still to give (R35, R149); and the values of device reset. -/

-- Each lemma waits for the ones before it: elaborated side by side they hold a thread each.
set_option Elab.async false

namespace Sys2Proof.Machine

variable {s t : State} {k : Task} {ks : List Task} {v w : Service} {a b : Agenda} {h : Handle}

/-! ## Notices (R35) -/

/-- The task tells the batch unit that the entry has acted or left, or resets the batch. -/
def Tells (h : Handle) (k : Task) : Prop := k = .acted h ∨ k = .gone h ∨ k = .resetMoment

/-- An entry that leaves the agenda is told of (R35). -/
theorem Reworked.notice {V : Insertion → Prop} (work : Reworked V ks a b) (ok : SlotsOk a)
    (pending : isPending h a = true) : isPending h b = true ∨ ∃ k ∈ ks, Tells h k := by
  have stays : ∀ {c d : Agenda}, SlotsOk c → SlotsOk d → isPending h c = true →
      ((∃ e ∈ c.list, e.handle = h) → (∃ e ∈ d.list, e.handle = h) ∨ ∃ k ∈ ks, Tells h k) →
      isPending h d = true ∨ ∃ k ∈ ks, Tells h k := fun c d p f =>
    (f ((c.isPending_iff h).1 p)).imp (d.isPending_iff h).2 id
  induction work with
  | same => exact .inl pending
  | inserted ks valid alloc handle entry =>
    refine stays ok (ok.reworked (.inserted ks valid alloc handle entry)) pending ?_
    rintro ⟨e, mem, eq⟩
    obtain ⟨slot, rest, -, -, rfl⟩ := allocate_cases alloc
    exact .inl ⟨e, mem_placeIn.2 (.inr mem), eq⟩
  | returned ks alloc =>
    refine stays ok (ok.reworked (V := V) (.returned ks alloc)) pending ?_
    rintro ⟨e, mem, eq⟩
    obtain ⟨slot, rest, -, -, rfl⟩ := allocate_cases alloc
    exact .inl ⟨e, mem, eq⟩
  | @replaced a e x ks mem handle entry =>
    refine stays ok (ok.reworked (V := V) (.replaced ks mem handle entry)) pending ?_
    rintro ⟨y, memy, eq⟩
    by_cases same : y.handle.slot = e.handle.slot
    · refine .inl ⟨x, mem_placeIn.2 (.inl rfl), ?_⟩
      rw [handle, ← ok.eq_of_slot memy mem same, eq]
    · exact .inl ⟨y, mem_placeIn.2 (.inr ((List.mem_eraseP_of_neg (by simpa using same)).2 memy)), eq⟩
  | @ended a e ks mem told =>
    refine stays ok (ok.reworked (V := V) (.ended mem told)) pending ?_
    rintro ⟨y, memy, eq⟩
    by_cases same : y.handle.slot = e.handle.slot
    · have eq : e.handle = h := by rw [← ok.eq_of_slot memy mem same, eq]
      exact .inr (told.elim (fun m => ⟨_, m, .inl (by rw [eq])⟩) fun m => ⟨_, m, .inr (.inl (by rw [eq]))⟩)
    · exact .inl ⟨y, (List.mem_eraseP_of_neg (by simpa using same)).2 memy, eq⟩
  | @removed a p ks told =>
    refine stays ok (ok.reworked (V := V) (.removed told)) pending ?_
    rintro ⟨y, memy, eq⟩
    by_cases goes : p y = true
    · exact .inr ⟨_, told y memy goes, .inr (.inl (by rw [eq]))⟩
    · exact .inl ⟨y, List.mem_filter.2 ⟨memy, by simpa using goes⟩, eq⟩
  | reset a told => exact .inr ⟨_, told, .inr (.inr rfl)⟩
  | andThen first second ih₁ ih₂ =>
    obtain pending | told := ih₁ ok pending stays
    · exact ih₂ (ok.reworked first) pending stays
    · exact .inr told

theorem isPending_congr (list : b.list = a.list) (gens : b.gens = a.gens) (h : Handle) :
    isPending h b = isPending h a := by
  unfold isPending resolveIn
  rw [list, gens]

/-! ## What the batch waits for -/

/-- BatchInv but for the service's own notices and ending: what it says of the batch, its claim and its
watch. -/
structure BatchCore (s : State) : Prop where
  emptyStaging : s.batch.state = .empty ↔ s.batch.staging = []
  claimArmed : s.arbiter.apply = true → s.batch.state = .armed ∧ ¬ applying s
  applyingArmed : applying s → s.batch.state = .armed
  watchArmed : ∀ h, s.batch.watch = some h →
    s.batch.state = .armed ∧ s.batch.boundary = some (.entry h) ∧ s.arbiter.apply = false ∧
      ¬ applying s ∧ isPending h s.agenda = true
  armedWaits : s.batch.state = .armed → s.arbiter.apply = true ∨ applying s ∨ s.batch.watch ≠ none
  resultsEnd : s.batch.results ≠ [] → s.batch.state = .applied ∨ s.batch.state = .failed

theorem BatchInv.core (inv : BatchInv s) : BatchCore s :=
  ⟨inv.emptyStaging, inv.claimArmed, inv.applyingArmed, inv.watchArmed, inv.armedWaits, inv.resultsEnd⟩

/-- A watched entry stays pending, or the service under way tells of it. -/
def WatchServed (s : State) : Prop := ∀ h v, s.batch.watch = some h → s.arbiter.activity = some v →
  isPending h v.after = true ∨ ∃ k ∈ v.todo, Tells h k

theorem tells_iff (h : Handle) (ks : List Task) : (∃ k ∈ ks, Tells h k) ↔
    .acted h ∈ ks ∨ .gone h ∈ ks ∨ .resetMoment ∈ ks := by
  constructor
  · rintro ⟨k, mem, rfl | rfl | rfl⟩
    · exact .inl mem
    · exact .inr (.inl mem)
    · exact .inr (.inr mem)
  · rintro (mem | mem | mem)
    · exact ⟨_, mem, .inl rfl⟩
    · exact ⟨_, mem, .inr (.inl rfl)⟩
    · exact ⟨_, mem, .inr (.inr rfl)⟩

theorem BatchInv.served (inv : BatchInv s) : WatchServed s := fun h v watch hv =>
  (inv.watchServed h v watch hv).imp id fun told => (tells_iff h v.todo).2 told

theorem batchInv_of_core (core : BatchCore s) (served : WatchServed s) (todo : TodoOk s) : BatchInv s :=
  ⟨core.emptyStaging, core.claimArmed, core.applyingArmed, core.watchArmed,
    fun h v watch hv => (served h v watch hv).imp id fun told => (tells_iff h v.todo).1 told, core.armedWaits,
    core.resultsEnd, todo⟩

theorem applying_of_activity (activity : t.arbiter.activity = s.arbiter.activity) : applying t ↔ applying s := by
  unfold applying
  rw [activity]

theorem BatchCore.congr (core : BatchCore s) (state : t.batch.state = s.batch.state)
    (staging : t.batch.staging = s.batch.staging) (boundary : t.batch.boundary = s.batch.boundary)
    (results : t.batch.results = s.batch.results) (watch : t.batch.watch = s.batch.watch)
    (apply : t.arbiter.apply = s.arbiter.apply) (serves : applying t ↔ applying s)
    (pending : ∀ h, isPending h t.agenda = isPending h s.agenda) : BatchCore t := by
  constructor <;> simp only [state, staging, boundary, results, watch, apply, serves, pending]
  · exact core.emptyStaging
  · exact core.claimArmed
  · exact core.applyingArmed
  · exact core.watchArmed
  · exact core.armedWaits
  · exact core.resultsEnd

theorem BatchCore.of_eq (core : BatchCore s) (batch : t.batch = s.batch) (agenda : t.agenda = s.agenda)
    (apply : t.arbiter.apply = s.arbiter.apply) (serves : applying t ↔ applying s) : BatchCore t :=
  core.congr (by rw [batch]) (by rw [batch]) (by rw [batch]) (by rw [batch]) (by rw [batch]) apply serves
    fun h => by rw [agenda]

theorem WatchServed.of_eq (served : WatchServed s) (watch : t.batch.watch = s.batch.watch)
    (activity : t.arbiter.activity = s.arbiter.activity) : WatchServed t := fun h v hw hv =>
  served h v (watch ▸ hw) (activity ▸ hv)

theorem BatchInv.of_eq (inv : BatchInv s) (batch : t.batch = s.batch) (agenda : t.agenda = s.agenda)
    (apply : t.arbiter.apply = s.arbiter.apply) (activity : t.arbiter.activity = s.arbiter.activity) :
    BatchInv t :=
  batchInv_of_core (inv.core.of_eq batch agenda apply (applying_of_activity activity))
    (inv.served.of_eq (by rw [batch]) activity) (inv.ends.of_eq activity)

theorem BatchInv.keeps {bs : List Block} (inv : BatchInv s) (k : Keeps bs s t)
    (n : .batch ∉ bs ∧ .agenda ∉ bs ∧ .arbiter ∉ bs := by simp) : BatchInv t :=
  inv.of_eq (k.batch n.1) (k.agenda n.2.1) (by rw [k.arbiter n.2.2]) (by rw [k.arbiter n.2.2])

/-- A batch with no claim and no watch, whose state is neither ARMED nor under apply. -/
theorem BatchCore.unarmed (staging : s.batch.state = .empty ↔ s.batch.staging = [])
    (apply : s.arbiter.apply = false) (free : ¬ applying s) (watch : s.batch.watch = none)
    (state : s.batch.state ≠ .armed)
    (results : s.batch.results ≠ [] → s.batch.state = .applied ∨ s.batch.state = .failed) : BatchCore s where
  emptyStaging := staging
  claimArmed := fun n => nomatch apply.symm.trans n
  applyingArmed := fun n => absurd n free
  watchArmed := fun _ n => nomatch watch.symm.trans n
  armedWaits := fun n => absurd n state
  resultsEnd := results

/-- A batch that is not ARMED has no apply claim and no watch, and is not under apply. -/
theorem BatchCore.idle (core : BatchCore s) (state : s.batch.state ≠ .armed) :
    s.arbiter.apply = false ∧ ¬ applying s ∧ s.batch.watch = none :=
  ⟨Bool.eq_false_iff.2 fun n => state (core.claimArmed n).1, fun n => state (core.applyingArmed n),
    Option.eq_none_iff_forall_ne_some.2 fun h n => state (core.watchArmed h n).1⟩

/-- A batch that is not EMPTY has staged edits, so any state but EMPTY agrees with them. -/
theorem BatchCore.staging_iff (core : BatchCore s) (state : s.batch.state ≠ .empty) {x : BatchState}
    (other : x ≠ .empty) : x = .empty ↔ s.batch.staging = [] :=
  ⟨fun n => absurd n other, fun n => absurd (core.emptyStaging.2 n) state⟩

/-! ## Answers of the batch unit -/

theorem BatchCore.stage (core : BatchCore s) (e : Edit) : BatchCore (stage e s).2 := by
  have fresh : s.batch.state ≠ .armed → BatchCore (withBatch (stagedBatch e (clearedBatch s.batch)) s) := fun n =>
    have idle := core.idle n
    .unarmed (by simp [stagedBatch]) idle.1 idle.2.1 rfl (by simp [stagedBatch]) fun n => absurd rfl n
  unfold Machine.stage
  dsimp only
  split
  · rename_i state
    exact fresh (by rw [state]; decide)
  · rename_i state
    obtain ⟨apply, free, watch⟩ := core.idle (by rw [state]; decide)
    split
    · refine .unarmed (by simp [stagedBatch]) apply free watch (by simp [stagedBatch]) fun n => ?_
      exact absurd (core.resultsEnd n) (by rw [state]; decide)
    · exact core
  · exact core
  all_goals
    rename_i state
    exact fresh (by rw [state]; decide)

theorem BatchCore.commitNow (core : BatchCore s) : BatchCore (commitNow s).2 := by
  unfold Machine.commitNow
  split
  · rename_i state
    obtain ⟨apply, free, watch⟩ := core.idle (by rw [state]; decide)
    exact {
      emptyStaging := core.staging_iff (by rw [state]; decide) (by simp)
      claimArmed := fun _ => ⟨rfl, free⟩
      applyingArmed := fun _ => rfl
      watchArmed := fun h n => nomatch watch.symm.trans n
      armedWaits := fun _ => .inl rfl
      resultsEnd := fun n => absurd (core.resultsEnd n) (by rw [state]; decide) }
  all_goals exact core

/-- A commit with ENTRY watches a pending entry (R148). -/
theorem BatchCore.commitEntry (core : BatchCore s) (h : Handle) : BatchCore (commitEntry h s).2 := by
  unfold Machine.commitEntry
  split
  · rename_i state
    split
    · exact core
    · exact core
    · rename_i e pending
      obtain ⟨apply, free, watch⟩ := core.idle (by rw [state]; decide)
      have named : isPending h s.agenda = true := by
        unfold isPending
        rw [show resolveIn h s.agenda = .pending e from pending]
      exact {
        emptyStaging := core.staging_iff (by rw [state]; decide) (by simp)
        claimArmed := fun n => nomatch apply.symm.trans n
        applyingArmed := fun _ => rfl
        watchArmed := fun x n => by
          cases n
          exact ⟨rfl, rfl, apply, free, named⟩
        armedWaits := fun _ => .inr (.inr (Option.some_ne_none h))
        resultsEnd := fun n => absurd (core.resultsEnd n) (by rw [state]; decide) }
  all_goals exact core

theorem BatchCore.discard (core : BatchCore s) (free : ¬ applying s) : BatchCore (discard s).2 := by
  unfold Machine.discard
  split
  · exact core
  · rename_i state
    have idle := core.idle (by rw [state]; decide)
    exact .unarmed (by simp [clearedBatch]) idle.1 free rfl (by simp [clearedBatch]) fun n => absurd rfl n
  · exact .unarmed (by simp [clearedBatch]) rfl free rfl (by simp [clearedBatch]) fun n => absurd rfl n
  all_goals exact core

theorem Answered.batchCore {v : Word} (x : Answered v s t) (core : BatchCore s) : BatchCore t := by
  cases x with
  | nothing => exact core
  | request l r =>
    have k := request_keeps l r s
    have arbiter := k.arbiter (by decide)
    exact core.of_eq (k.batch (by decide)) (k.agenda (by decide)) (by rw [arbiter])
      (applying_of_activity (by rw [arbiter]))
  | start g =>
    have k := startGroup_keeps g s
    have arbiter := k.arbiter (by decide)
    exact core.of_eq (k.batch (by decide)) (k.agenda (by decide)) (by rw [arbiter])
      (applying_of_activity (by rw [arbiter]))
  | stop g =>
    have k := stopGroup_keeps g s
    have arbiter := k.arbiter (by decide)
    exact core.of_eq (k.batch (by decide)) (k.agenda (by decide)) (by rw [arbiter])
      (applying_of_activity (by rw [arbiter]))
  | @release g =>
    have k := releaseGroup_keeps g s
    have arbiter := k.arbiter (by decide)
    exact core.of_eq (k.batch (by decide)) (k.agenda (by decide)) (by rw [arbiter])
      (applying_of_activity (by rw [arbiter]))
  | trip m =>
    have k := tripMask_keeps m .host s
    obtain ⟨activity, apply, -⟩ := tripMask_claims m .host s
    exact core.of_eq (k.batch (by decide)) (k.agenda (by decide)) apply (applying_of_activity activity)
  | stage => exact core.stage _
  | commitNow => exact core.commitNow
  | commitEntry h => exact core.commitEntry h
  | discard free => exact core.discard free

/-- While a service runs, an answer leaves what is watched, or the watch has ended (R148, R156). -/
theorem Answered.watch {v : Word} (x : Answered v s t) (busy : s.arbiter.activity ≠ none) :
    t.batch.watch = s.batch.watch ∨ t.batch.watch = none := by
  have same : t.batch = s.batch → t.batch.watch = s.batch.watch ∨ t.batch.watch = none := fun e => .inl (by rw [e])
  cases x with
  | nothing => exact .inl rfl
  | request l r => exact same ((request_keeps l r s).batch (by decide))
  | start g => exact same ((startGroup_keeps g s).batch (by decide))
  | stop g => exact same ((stopGroup_keeps g s).batch (by decide))
  | release => exact same ((releaseGroup_keeps _ s).batch (by decide))
  | trip m => exact same ((tripMask_keeps m _ s).batch (by decide))
  | stage =>
    unfold Machine.stage
    dsimp only
    split
    · exact .inr rfl
    · split
      · exact .inl rfl
      · exact .inl rfl
    · exact .inl rfl
    all_goals exact .inr rfl
  | commitNow => unfold Machine.commitNow; split <;> exact .inl rfl
  | commitEntry h idle => exact absurd idle busy
  | discard =>
    unfold Machine.discard
    split
    · exact .inl rfl
    · exact .inr rfl
    · exact .inr rfl
    all_goals exact .inl rfl

theorem Answered.batchInv {v : Word} (x : Answered v s t) (inv : BatchInv s) : BatchInv t := by
  have activity := x.activity.1
  refine batchInv_of_core (x.batchCore inv.core) (fun h v watch hv => ?_) (inv.ends.of_eq activity)
  rw [activity] at hv
  obtain same | none := x.watch (by rw [hv]; exact Option.some_ne_none v)
  · exact inv.served h v (same ▸ watch) hv
  · exact nomatch none.symm.trans watch

theorem batchInv_writeCmd (v : Word) (s : State) (inv : BatchInv s) : BatchInv (writeCmd v (judge v) s) := by
  obtain ⟨-, e⟩ | ⟨-, judged⟩ := writeCmd_cases v s
  · rw [e]
    exact inv.keeps (refuse_keeps _ _ s)
  · generalize writeCmd v (judge v) s = t at judged ⊢
    cases judged with
    | handed => exact inv.of_eq rfl rfl rfl rfl
    | held => exact inv.of_eq rfl rfl rfl rfl
    | completed code answer =>
      exact (answer.batchInv (inv.of_eq rfl rfl rfl rfl)).keeps (complete_keeps code [] _)

/-! ## The service under way -/

/-- After a task that tells of the entry, the entry is watched no more. -/
theorem runTask_watch (watch : (runTask k s).1.batch.watch = some h) : s.batch.watch = some h ∧ ¬ Tells h k := by
  have same : (runTask k s).1.batch = s.batch → (∀ x, k ≠ .acted x) → (∀ x, k ≠ .gone x) → k ≠ .resetMoment →
      s.batch.watch = some h ∧ ¬ Tells h k := fun e a g r =>
    ⟨by rwa [e] at watch, fun t => t.elim (a h) fun t => t.elim (g h) r⟩
  cases k with
  | request l r x => exact same ((request_keeps l r s).batch (by decide)) (by simp) (by simp) (by simp)
  | offer r => exact same ((offerReport_keeps r s).batch (by decide)) (by simp) (by simp) (by simp)
  | allocated n =>
    refine same ?_ (by simp) (by simp) (by simp)
    simp only [runTask]
    split <;> rfl
  | acted x =>
    simp only [runTask, boundaryAct] at watch
    split at watch
    · cases watch
    · rename_i other
      refine ⟨watch, ?_⟩
      rintro (eq | eq | eq) <;> cases eq
      exact other watch
  | gone x =>
    simp only [runTask, boundaryGone] at watch
    split at watch
    · cases watch
    · rename_i other
      refine ⟨watch, ?_⟩
      rintro (eq | eq | eq) <;> cases eq
      exact other watch
  | purged | complete => exact same rfl (by simp) (by simp) (by simp)
  | resetMoment => cases watch
  | endBatch e =>
    refine ⟨?_, ?_⟩
    · cases e <;> exact watch
    · rintro (eq | eq | eq) <;> cases eq

/-- A boundary act raises the apply claim of a watching batch; a departure abandons it; an engine reset empties it
(R149, R159). -/
theorem BatchCore.runTask (core : BatchCore s) (ending : ∀ e, k ≠ .endBatch e)
    (reset : k = .resetMoment → ¬ applying s) : BatchCore (runTask k s).1 := by
  have serves := applying_of_activity (runTask_activity k s).1
  have same : (Machine.runTask k s).1.batch = s.batch → (Machine.runTask k s).1.arbiter.apply = s.arbiter.apply →
      BatchCore (Machine.runTask k s).1 := fun batch apply => core.of_eq batch (runTask_agenda k s) apply serves
  cases k with
  | request l r x =>
    have keeps := request_keeps l r s
    exact same (keeps.batch (by decide)) (congrArg _ (keeps.arbiter (by decide)))
  | offer r =>
    have keeps := offerReport_keeps r s
    exact same (keeps.batch (by decide)) (congrArg _ (keeps.arbiter (by decide)))
  | allocated n => refine same ?_ ?_ <;> simp only [Machine.runTask] <;> split <;> rfl
  | acted x =>
    by_cases watch : s.batch.watch = some x
    · obtain ⟨state, boundary, apply, free, pending⟩ := core.watchArmed x watch
      have eq : (Machine.runTask (.acted x) s).1 =
          withArbiter { s.arbiter with apply := true } (withBatch { s.batch with watch := none } s) := if_pos watch
      rw [eq]
      exact {
        emptyStaging := core.emptyStaging
        claimArmed := fun _ => ⟨state, free⟩
        applyingArmed := fun _ => state
        watchArmed := fun h n => nomatch n
        armedWaits := fun _ => .inl rfl
        resultsEnd := core.resultsEnd }
    · have eq : (Machine.runTask (.acted x) s).1 = s := if_neg watch
      rw [eq]
      exact core
  | gone x =>
    by_cases watch : s.batch.watch = some x
    · obtain ⟨state, boundary, apply, free, pending⟩ := core.watchArmed x watch
      have eq : (Machine.runTask (.gone x) s).1 = setBatchEnd (withBatch { s.batch with
          watch := none, state := .abandoned, reason := some .boundaryGone, failing := 0 } s) := if_pos watch
      rw [eq]
      exact .unarmed (core.staging_iff (by rw [state]; decide) (by simp)) apply free rfl (fun n => nomatch n)
        fun n => absurd (core.resultsEnd n) (by rw [state]; decide)
    · have eq : (Machine.runTask (.gone x) s).1 = s := if_neg watch
      rw [eq]
      exact core
  | purged | complete => exact same rfl rfl
  | resetMoment =>
    exact .unarmed (by simp [Machine.runTask, engineReset, clearedBatch]) rfl
      (fun n => reset rfl (serves.1 n)) rfl (fun n => nomatch n) fun n => absurd rfl n
  | endBatch e => exact absurd rfl (ending e)

/-- The end of a service that is no apply and leaves the watched entry pending. -/
theorem BatchCore.endService (core : BatchCore s) (free : ¬ applying s)
    (watched : ∀ h, s.batch.watch = some h → isPending h v.after = true) : BatchInv (endService v s) := by
  have idle : ¬ applying (Machine.endService v s) := fun ⟨_, hv, _⟩ => nomatch hv
  refine batchInv_of_core ?_ (fun _ _ _ hv => (nomatch hv)) (todoOk_endService v s)
  exact {
    emptyStaging := core.emptyStaging
    claimArmed := fun n => ⟨(core.claimArmed n).1, idle⟩
    applyingArmed := fun n => absurd n idle
    watchArmed := fun h n => by
      obtain ⟨state, boundary, apply, -, -⟩ := core.watchArmed h n
      exact ⟨state, boundary, apply, idle, (isPending_congr rfl rfl h).trans (watched h n)⟩
    armedWaits := fun n => (core.armedWaits n).imp id fun n => .inr (n.resolve_left free)
    resultsEnd := core.resultsEnd }

/-- The end of the apply service ends the batch (R153, R154). -/
theorem batchInv_endBatch (core : BatchCore s) (serves : applying s) (e : BatchEnding) :
    BatchInv (endService v (runTask (.endBatch e) s).1) := by
  have state := core.applyingArmed serves
  have apply : s.arbiter.apply = false := Bool.eq_false_iff.2 fun n => (core.claimArmed n).2 serves
  have watch : s.batch.watch = none :=
    Option.eq_none_iff_forall_ne_some.2 fun h n => (core.watchArmed h n).2.2.2.1 serves
  refine batchInv_of_core ?_ (fun _ _ _ hv => (nomatch hv)) (todoOk_endService v _)
  cases e with
  | applied results =>
    exact .unarmed (core.staging_iff (by rw [state]; decide) fun n => nomatch n) apply (fun ⟨_, hv, _⟩ => nomatch hv) watch
      (fun n => nomatch n) fun _ => .inl rfl
  | failed index reason results =>
    exact .unarmed (core.staging_iff (by rw [state]; decide) fun n => nomatch n) apply (fun ⟨_, hv, _⟩ => nomatch hv) watch
      (fun n => nomatch n) fun _ => .inr rfl

theorem applying_iff_claim (hv : s.arbiter.activity = some v) : applying s ↔ v.claim = .apply :=
  ⟨fun ⟨_, hu, eq⟩ => Option.some.inj (hv.symm.trans hu) ▸ eq, fun eq => ⟨v, hv, eq⟩⟩

/-- A service of the same claim goes on, with its notices still to give. -/
theorem BatchCore.serving (core : BatchCore s) (hw : s.arbiter.activity = some w) (claim : v.claim = w.claim)
    (todo : EndsWell v.claim v.todo)
    (watched : ∀ h, s.batch.watch = some h → isPending h v.after = true ∨ ∃ k ∈ v.todo, Tells h k) :
    BatchInv (serving v s) := by
  refine batchInv_of_core (core.of_eq rfl rfl rfl ?_) (fun h u n hu => ?_) (todoOk_serving todo s)
  · rw [applying_iff_claim (v := v) (s := Machine.serving v s) rfl, applying_iff_claim hw, claim]
  · cases hu
    exact watched h n

/-- What a service tells after its first task, where the entry is still watched after it. -/
theorem tells_rest (told : ∃ m ∈ k :: ks, Tells h m) (first : ¬ Tells h k) (s : State) :
    ∃ m ∈ (runTask k s).2 ++ ks, Tells h m := by
  obtain ⟨m, mem, tells⟩ := told
  obtain rfl | mem := List.mem_cons.1 mem
  · exact absurd tells first
  · exact ⟨m, List.mem_append_right _ mem, tells⟩

/-- An apply service ends with the batch's ending alone. -/
theorem EndsWell.not_apply (ends : EndsWell w.claim []) : w.claim ≠ .apply := by
  intro claim
  obtain ⟨ms, last, split, -, e, rfl⟩ := claim ▸ ends
  exact absurd split (by simp)

theorem batchInv_advance (inv : BatchInv s) (hv : s.arbiter.activity = some v) : BatchInv (advance v s) := by
  have still : ∀ k, (runTask k s).1.arbiter.activity = some v := fun k => (runTask_activity k s).1.trans hv
  obtain ⟨none, e⟩ | ⟨k, ks, eq, last, e⟩ | ⟨k, ks, eq, more, e⟩ := advance_cases v s <;> rw [e]
  · refine inv.core.endService ?_ fun h watch => ?_
    · rw [applying_iff_claim hv]
      exact EndsWell.not_apply (none ▸ inv.ends v hv)
    · obtain pending | ⟨m, mem, -⟩ := inv.served h v watch hv
      · exact pending
      · rw [none] at mem
        cases mem
  · obtain rfl : ks = [] := (List.append_eq_nil_iff.1 last).2
    have whole : ¬ applying s → (∀ e, k ≠ .endBatch e) → BatchInv (endService v (runTask k s).1) := by
      intro free ending
      refine (inv.core.runTask ending fun _ => free).endService ?_ fun h watch => ?_
      · rwa [applying_of_activity (runTask_activity k s).1]
      · obtain ⟨watch, silent⟩ := runTask_watch watch
        obtain pending | told := inv.served h v watch hv
        · exact pending
        · obtain ⟨m, mem, -⟩ := tells_rest (eq ▸ told) silent s
          rw [last] at mem
          cases mem
    obtain ⟨task, rest⟩ | ⟨rfl, claim, -⟩ | ⟨-, ends⟩ := (inv.ends.head hv eq).cases_cons
    · refine whole ?_ fun e n => ?_
      · rw [applying_iff_claim hv]
        exact rest.not_apply
      · subst n
        exact task
    · exact whole (by rw [applying_iff_claim hv, claim]; simp) (by simp)
    · cases claim : v.claim <;> rw [claim] at ends
      case expiry | reaction => cases ends
      case purge g =>
        obtain ⟨n, eq⟩ := ends
        cases eq
        exact whole (by rw [applying_iff_claim hv, claim]; simp) (by simp)
      case apply =>
        obtain ⟨x, eq⟩ := ends
        cases eq
        exact batchInv_endBatch inv.core ⟨v, hv, claim⟩ x
      case host =>
        obtain ⟨code, words, eq | eq⟩ := ends <;> cases eq
        exact whole (by rw [applying_iff_claim hv, claim]; simp) (by simp)
  · have head := inv.ends.head hv eq
    have going : (∀ e, k ≠ .endBatch e) ∧ (k = .resetMoment → ¬ applying s) := by
      obtain ⟨task, -⟩ | ⟨rfl, claim, -⟩ | ⟨rfl, ends⟩ := head.cases_cons
      · refine ⟨fun e n => ?_, fun n => ?_⟩ <;> subst n <;> exact task.elim
      · exact ⟨by simp, fun _ => by rw [applying_iff_claim hv, claim]; simp⟩
      · exact absurd (by rw [runTask_more_of_last ends]; rfl) more
    refine (inv.core.runTask going.1 going.2).serving (v := { v with todo := _ }) (still k) rfl (head.rest more)
      fun h watch => ?_
    obtain ⟨watch, silent⟩ := runTask_watch watch
    exact (inv.served h v watch hv).imp id fun told => tells_rest (eq ▸ told) silent s

theorem nextClaim_apply (next : nextClaim s = some .apply) : s.arbiter.apply = true := by
  unfold nextClaim at next
  split at next
  · cases next
  split at next
  · cases next
  split at next
  · cases next
  · split at next
    · assumption
    · split at next
      · cases next
      · split at next <;> cases next

/-- A grant takes the apply claim, or leaves the batch as it waits, its watched entry's notices to come (R52). -/
theorem batchInv_granted {c : Claim} (slots : SlotInv s) (inv : BatchInv s) (next : nextClaim s = some c) :
    BatchInv (granted c s) := by
  have idle := (nextClaim_idle next).1
  have free : ¬ applying s := fun ⟨v, hv, _⟩ => nomatch idle.symm.trans hv
  have serves : applying (granted c s) ↔ c = .apply := applying_iff_claim (v := serviceFor c s) rfl
  have batch : (granted c s).batch = s.batch := withoutClaim_batch c s
  have agenda : (granted c s).agenda = s.agenda := withoutClaim_agenda c s
  have todo := todoOk_granted c s
  by_cases apply : c = .apply
  · subst apply
    obtain ⟨state, -⟩ := inv.claimArmed (nextClaim_apply next)
    have watch : s.batch.watch = none :=
      Option.eq_none_iff_forall_ne_some.2 fun h n =>
        nomatch (inv.core.watchArmed h n).2.2.1.symm.trans (nextClaim_apply next)
    refine batchInv_of_core ?_ (fun h v n _ => nomatch watch.symm.trans n) todo
    exact {
      emptyStaging := inv.emptyStaging
      claimArmed := fun n => nomatch n
      applyingArmed := fun _ => state
      watchArmed := fun h n => nomatch watch.symm.trans n
      armedWaits := fun _ => .inr (.inl (serves.2 rfl))
      resultsEnd := inv.resultsEnd }
  · have claim : (granted c s).arbiter.apply = s.arbiter.apply := by
      cases c with
      | apply => exact absurd rfl apply
      | _ => rfl
    refine batchInv_of_core (inv.core.of_eq batch agenda claim
      ⟨fun n => absurd (serves.1 n) apply, fun n => absurd n free⟩) (fun h v n hv => ?_) todo
    cases hv
    exact (serviceFor_reworked c s).notice slots.now (inv.core.watchArmed h (batch ▸ n)).2.2.2.2

theorem batchInv_firstRequest (inv : BatchInv s) : BatchInv (firstRequest s) := by
  obtain e | ⟨v, l, r, record, ks, hv, todo, e⟩ := firstRequest_eq s <;> rw [e]
  · exact inv
  · have activity := (runTask_activity (.request l r record) s).1.trans hv
    refine (inv.core.runTask (k := .request l r record) (by simp) (by simp)).serving (v := { v with todo := _ })
      activity rfl ((inv.ends.head hv todo).afterRequest s) fun h watch => ?_
    obtain ⟨watch, silent⟩ := runTask_watch (k := .request l r record) watch
    exact (inv.served h v watch hv).imp id fun told => tells_rest (todo ▸ told) silent s

theorem batchInv_writeRegister {r : Register} (n : r ≠ .cmd) (v : Word) (inv : BatchInv s) :
    BatchInv (writeRegister r v s) := by
  have arbiter := writeRegister_arbiter n v s
  obtain ⟨list, free, gens⟩ := writeRegister_agenda r v s
  have stands : (writeRegister r v s).batch = s.batch ∨ ∃ x, (writeRegister r v s).batch = { s.batch with sel := x } := by
    have same : .batch ∉ registerBlocks r → (writeRegister r v s).batch = s.batch ∨
        ∃ x, (writeRegister r v s).batch = { s.batch with sel := x } := fun k =>
      .inl ((writeRegister_keeps r v s).batch k)
    cases r with
    | cmd => exact absurd rfl n
    | batchSel =>
      change (writeBatchSel v s).batch = s.batch ∨ ∃ x, (writeBatchSel v s).batch = { s.batch with sel := x }
      unfold writeBatchSel
      split
      · exact .inr ⟨_, rfl⟩
      · exact .inl rfl
    | _ => exact same (by simp [registerBlocks])
  have activity : (writeRegister r v s).arbiter.activity = s.arbiter.activity := by rw [arbiter]
  have pending := isPending_congr list gens
  have core : BatchCore (writeRegister r v s) := by
    obtain e | ⟨x, e⟩ := stands <;>
      exact inv.core.congr (by rw [e]) (by rw [e]) (by rw [e]) (by rw [e]) (by rw [e]) (by rw [arbiter])
        (applying_of_activity activity) pending
  refine batchInv_of_core core (inv.served.of_eq ?_ activity) (inv.ends.of_eq activity)
  obtain e | ⟨x, e⟩ := stands <;> rw [e]

/-- Every elementary change keeps the batch, where the slots are well kept. -/
theorem batchInv_move (s t : State) (m : Move s t) (inv : SlotInv s ∧ BatchInv s) : SlotInv t ∧ BatchInv t := by
  obtain ⟨slots, inv⟩ := inv
  refine ⟨slotInv_move s t m slots, ?_⟩
  cases m with
  | quiet k => exact inv.keeps k
  | register n v => exact batchInv_writeRegister n v inv
  | timeRead => exact inv.keeps (readTimeLo_keeps s)
  | tick => exact inv.keeps (advanceTime_keeps s)
  | guardEnd p => exact inv.keeps (guardEndIfReached_keeps p s)
  | trip g c =>
    have k := tripRequest_keeps g c s
    obtain ⟨activity, apply, -⟩ := tripRequest_claims g c s
    exact inv.of_eq (k.batch (by decide)) (k.agenda (by decide)) apply activity
  | count | samplePhase | input | matched => exact inv.of_eq rfl rfl rfl rfl
  | capture n e x f => exact inv.keeps (offerCapture_keeps n e x f s)
  | reaction => exact inv.keeps (offerReaction_keeps _ s)
  | held x =>
    obtain e | ⟨-, -, code, u, e, answer⟩ := heldAnswer_cases x s <;> rw [e]
    · exact inv
    · exact (answer.batchInv inv).keeps (complete_keeps code [] u)
  | grant next => exact batchInv_granted slots inv next
  | advance hv => exact batchInv_advance inv hv
  | firstRequest => exact batchInv_firstRequest inv

theorem batchInv_deviceReset (s : State) : BatchInv (deviceReset s) :=
  batchInv_of_core
    (.unarmed ⟨fun _ => rfl, fun _ => rfl⟩ rfl (fun ⟨_, hv, _⟩ => nomatch hv) rfl (fun n => nomatch n)
      fun n => absurd rfl n)
    (fun _ _ _ hv => (nomatch hv)) fun _ hv => (nomatch hv)

/-- Settles O27: every elementary change keeps the batch. -/
theorem batchKeptByEveryStep : Obligations.BatchKeptByEveryStep := fun _ _ slots inv h =>
  (step_inv batchInv_move
    (fun v s inv => ⟨inv.1.of_eq ((writeCmd_keeps v s).agenda (by decide)) (writeCmd_activity v s),
      batchInv_writeCmd v s inv.2⟩)
    (fun s => ⟨slotInv_deviceReset s, batchInv_deviceReset s⟩)
    (fun _ _ inv => ⟨inv.1.of_eq rfl rfl, inv.2.of_eq rfl rfl rfl rfl⟩) ⟨slots, inv⟩ h).2

/-! ## Device reset (R14, R50, R60, R84, R105, R122, R141, R159, R170, R177) -/

/-- Device reset from the reset state itself, whose pins have been sampled no more than it says. -/
theorem deviceReset_reset : deviceReset State.reset = State.reset := rfl

/-- Settles O60: the values of device reset, and the invariants that they meet. -/
theorem deviceResetValuesMeetInvariants : Obligations.DeviceResetValuesMeetInvariants := by
  refine ⟨fun s => ⟨_, exec_deviceReset s, rfl, rfl, rfl, fun l => ?_, fun p => ?_, fun g => ?_, rfl, rfl, rfl, rfl,
    rfl, rfl, rfl, rfl, rfl, rfl, slotInv_deviceReset s, entryInv_deviceReset s, pairInv_of_resetLines rfl,
    groupInv_deviceReset s, capacityInv_deviceReset s, portInv_deviceReset s, batchInv_deviceReset s, ?_, rfl⟩,
    ?_⟩
  · have line : (deviceReset s).lines.lines[l] = resetLine := by simp [deviceReset, State.reset, resetLines]
    refine ⟨line, ?_⟩
    rw [outPin, line]
    rfl
  · simp [deviceReset, State.reset, resetLines]
  · simp [deviceReset, State.reset]
  · rw [readWord_freeCount]
    exact congrArg numWord allSlots_length
  · exact deviceReset_reset ▸ ⟨slotInv_deviceReset _, entryInv_deviceReset _, pairInv_of_resetLines rfl,
      groupInv_deviceReset _, capacityInv_deviceReset _, portInv_deviceReset _, batchInv_deviceReset _⟩

end Sys2Proof.Machine
end

section
/-! Chapter Register Window and Interrupt: the fields of words (R199 to R205). `HoldsBelow w n b` says that a word
is the number `n` and uses its bits below `b` alone; a field put above them adds its number in its place. In the
other direction a field of a word is read back bit by bit (`getLsbD_fieldWord_field`). -/

-- Each lemma waits for the ones before it: elaborated side by side they hold a thread each.
set_option Elab.async false

namespace Sys2Proof.Machine

variable {s t : State} {v w : Word}

/-! ## Fields put together -/

/-- The word is the number `n`, and its bits from `b` up are clear. -/
structure HoldsBelow (w : Word) (n b : Nat) : Prop where
  value : w.toNat = n
  fits : n < 2 ^ b

theorem HoldsBelow.field {n b x p : Nat} (h : HoldsBelow w n b) (len : Nat) (small : x < 2 ^ len)
    (apart : b ≤ p := by decide) (inside : p + len ≤ 16 := by decide) :
    HoldsBelow (w ||| fieldWord x p) (n + 2 ^ p * x) (p + len) := by
  have low : n < 2 ^ p := h.fits.trans_le (Nat.pow_le_pow_right (by decide) apart)
  have whole : x * 2 ^ p < 2 ^ (p + len) := by
    rw [Nat.pow_add, Nat.mul_comm]
    exact Nat.mul_lt_mul_of_pos_left small (Nat.two_pow_pos p)
  have high : x * 2 ^ p < 2 ^ 16 := whole.trans_le (Nat.pow_le_pow_right (by decide) inside)
  refine ⟨?_, ?_⟩
  · rw [BitVec.toNat_or, h.value, toNat_fieldWord high, Nat.mul_comm, Nat.or_comm,
      ← Nat.two_pow_add_eq_or_of_lt low, Nat.add_comm]
  · have next : (x + 1) * 2 ^ p ≤ 2 ^ len * 2 ^ p := Nat.mul_le_mul_right _ small
    rw [Nat.add_mul, Nat.one_mul, Nat.mul_comm (2 ^ len), ← Nat.pow_add] at next
    rw [Nat.mul_comm (2 ^ p)]
    omega

theorem bitWord_eq_fieldWord (b : Bool) {p : Nat} (inside : p < 16) :
    bitWord b p = fieldWord (if b then 1 else 0) p := by
  cases b
  · simp [bitWord, fieldWord]
  · revert p
    decide

theorem HoldsBelow.bit {n b p : Nat} (h : HoldsBelow w n b) (c : Bool) (apart : b ≤ p := by decide)
    (inside : p < 16 := by decide) :
    HoldsBelow (w ||| bitWord c p) (n + 2 ^ p * (if c then 1 else 0)) (p + 1) := by
  rw [bitWord_eq_fieldWord c inside]
  exact h.field 1 (by split <;> decide) apart inside

theorem holdsBelow_fieldWord {x len : Nat} (small : x < 2 ^ len) (inside : len ≤ 16 := by decide) :
    HoldsBelow (fieldWord x 0) x len := by
  have fits : x < 2 ^ 16 := small.trans_le (Nat.pow_le_pow_right (by decide) inside)
  exact ⟨(toNat_fieldWord (by omega)).trans (Nat.mul_one x), small⟩

theorem holdsBelow_bitWord (c : Bool) : HoldsBelow (bitWord c 0) (if c then 1 else 0) 1 := by
  cases c <;> exact ⟨rfl, by decide⟩

/-! ## Fields taken out -/

theorem field_lt (v : Word) (n len : Nat) : field v n len < 2 ^ len := Nat.mod_lt _ (Nat.two_pow_pos len)

theorem testBit_field (v : Word) (n len j : Nat) :
    (field v n len).testBit j = (decide (j < len) && v.getLsbD (n + j)) := by
  unfold field
  rw [Nat.testBit_mod_two_pow, Nat.testBit_div_two_pow, BitVec.testBit_toNat, Nat.add_comm]

/-- A field read back in its place shows the word's bits there and no other. -/
theorem getLsbD_fieldWord_field (v : Word) (n len : Nat) {i : Nat} (h : i < 16) :
    (fieldWord (field v n len) n).getLsbD i = (decide (n ≤ i ∧ i < n + len) && v.getLsbD i) := by
  rw [fieldWord, BitVec.getLsbD_ofNat, Nat.testBit_mul_two_pow, decide_eq_true h, Bool.true_and]
  by_cases low : n ≤ i
  · rw [testBit_field, Nat.add_sub_cancel' low]
    simp only [low, decide_true, Bool.true_and, true_and]
    congr 1
    exact decide_eq_decide.2 (by omega)
  · simp [low]

/-- Fields are those of the masked word where the mask holds them. -/
theorem field_and (v m : Word) (n len : Nat) (mask : ∀ j < len, m.getLsbD (n + j) = true) :
    field (v &&& m) n len = field v n len := by
  refine Nat.eq_of_testBit_eq fun j => ?_
  rw [testBit_field, testBit_field, BitVec.getLsbD_and]
  by_cases inside : j < len
  · rw [mask j inside, Bool.and_true]
  · simp [inside]

/-! ## Handles, times and control words (R199, R200) -/

theorem toNat_append8 (x y : BitVec 8) : (x ++ y).toNat = y.toNat + 256 * x.toNat := by
  have := y.isLt
  rw [BitVec.toNat_append, ← Nat.shiftLeft_add_eq_or_of_lt this, Nat.shiftLeft_eq]
  omega

theorem handleOfWord_handleWord (h : Handle) : handleOfWord (handleWord h) = h := by
  obtain ⟨slot, gen⟩ := h
  have low : ((gen ++ slot).setWidth 8 : BitVec 8) = slot := by
    refine BitVec.eq_of_toNat_eq ?_
    rw [BitVec.toNat_setWidth, toNat_append8]
    have := slot.isLt
    omega
  have high : (((gen ++ slot) >>> 8).setWidth 8 : BitVec 8) = gen := by
    refine BitVec.eq_of_toNat_eq ?_
    rw [BitVec.toNat_setWidth, BitVec.toNat_ushiftRight, toNat_append8, Nat.shiftRight_eq_div_pow]
    have := slot.isLt
    have := gen.isLt
    omega
  exact congrArg₂ Handle.mk low high

theorem handleWord_handleOfWord (w : Word) : handleWord (handleOfWord w) = w := by
  refine BitVec.eq_of_toNat_eq ?_
  rw [handleWord, handleOfWord]
  have := w.isLt
  rw [toNat_append8, BitVec.toNat_setWidth, BitVec.toNat_setWidth, BitVec.toNat_ushiftRight,
    Nat.shiftRight_eq_div_pow]
  omega

theorem toNat_ofHalves (lo hi : Word) : (ofHalves lo hi).toNat = lo.toNat + 65536 * hi.toNat := by
  have := lo.isLt
  rw [ofHalves, BitVec.toNat_append, ← Nat.shiftLeft_add_eq_or_of_lt this, Nat.shiftLeft_eq]
  omega

theorem ofHalves_halves (x : Time) : ofHalves (loHalf x) (hiHalf x) = x := by
  refine BitVec.eq_of_toNat_eq ?_
  rw [toNat_ofHalves, loHalf_toNat, hiHalf_toNat]
  omega

theorem actionCode_lt (a : Action) : actionCode a < 8 := by cases a <;> decide

theorem optionCode_lt (o : ReportOption) : optionCode o < 4 := by cases o <;> decide

theorem lateCode_lt (p : LatePolicy) : lateCode p < 2 := by cases p <;> decide

/-- The four fields of a control word stand in their places (R199). -/
theorem toNat_controlWord (line : Fin 16) (a : Action) (p : LatePolicy) (o : ReportOption) :
    (controlWord line.val a p o).toNat = controlNumber line.val (actionCode a) (lateCode p) (optionCode o) :=
  ((((holdsBelow_fieldWord (x := line.val) (len := 4) line.isLt).field 3 (actionCode_lt a)).field 1
    (lateCode_lt p)).field 2 (optionCode_lt o)).value

theorem actionOfCode_eq_some {n : Nat} {a : Action} : actionOfCode n = some a ↔ n = actionCode a := by
  constructor
  · intro h
    unfold actionOfCode at h
    split at h <;> cases h <;> rfl
  · rintro rfl
    cases a <;> rfl

theorem actionOfCode_eq_none {n : Nat} : actionOfCode n = none ↔ 5 ≤ n := by
  constructor
  · intro h
    by_contra small
    interval_cases n <;> cases h
  · intro large
    unfold actionOfCode
    split <;> first | omega | rfl

theorem optionOfCode_eq_some {n : Nat} {o : ReportOption} : optionOfCode n = some o ↔ n = optionCode o := by
  constructor
  · intro h
    unfold optionOfCode at h
    split at h <;> cases h <;> rfl
  · rintro rfl
    cases o <;> rfl

theorem optionOfCode_eq_none {n : Nat} : optionOfCode n = none ↔ 3 ≤ n := by
  constructor
  · intro h
    by_contra small
    interval_cases n <;> cases h
  · intro large
    unfold optionOfCode
    split <;> first | omega | rfl

theorem bit_eq_testBit (v : Word) (n : Nat) : bit v n = v.toNat.testBit n := rfl

theorem bit_iff (v : Word) (n : Nat) : bit v n = true ↔ v.toNat / 2 ^ n % 2 = 1 := by
  rw [bit_eq_testBit, Nat.testBit_eq_decide_div_mod_eq, decide_eq_true_eq]

theorem controlLate_eq (v : Word) : controlLate v = .drop ↔ v.toNat / 128 % 2 = 1 := by
  rw [← show v.toNat / 2 ^ 7 % 2 = 1 ↔ v.toNat / 128 % 2 = 1 from Iff.rfl, ← bit_iff]
  unfold controlLate
  split <;> simp_all

theorem lateCode_controlLate (v : Word) : lateCode (controlLate v) = v.toNat / 128 % 2 := by
  have two : v.toNat / 128 % 2 < 2 := Nat.mod_lt _ (by decide)
  have iff := controlLate_eq v
  cases h : controlLate v with
  | fire =>
    have : v.toNat / 128 % 2 ≠ 1 := fun n => nomatch h.symm.trans (iff.2 n)
    change 0 = v.toNat / 128 % 2
    omega
  | drop => exact (iff.1 h).symm

/-- What a control word's fields read back (R199). -/
theorem control_controlWord (line : Fin 16) (a : Action) (p : LatePolicy) (o : ReportOption) :
    controlLine (controlWord line.val a p o) = line ∧ controlAction (controlWord line.val a p o) = some a ∧
      controlLate (controlWord line.val a p o) = p ∧ controlOption (controlWord line.val a p o) = some o := by
  have number := toNat_controlWord line a p o
  have action := actionCode_lt a
  have late := lateCode_lt p
  have option := optionCode_lt o
  unfold controlNumber at number
  refine ⟨?_, ?_, ?_, ?_⟩
  · refine Fin.ext ?_
    unfold controlLine field
    rw [number, Fin.val_ofNat]
    omega
  · refine actionOfCode_eq_some.2 ?_
    unfold field
    rw [number]
    omega
  · have same : lateCode (controlLate (controlWord line.val a p o)) = lateCode p := by
      rw [lateCode_controlLate, number]
      omega
    revert same
    cases controlLate (controlWord line.val a p o) <;> cases p <;> simp [lateCode]
  · refine optionOfCode_eq_some.2 ?_
    unfold field
    rw [number]
    omega

/-- Settles O5: the layouts, each by the number its fields make. -/
theorem parameterLayouts : Obligations.ParameterLayouts := by
  refine ⟨fun h => ⟨?_, handleOfWord_handleWord h⟩, handleWord_handleOfWord,
    fun t => ⟨ofHalves_halves t, loHalf_toNat t, hiHalf_toNat t⟩,
    fun line a p o => ⟨toNat_controlWord line a p o, control_controlWord line a p o⟩, fun v => ?_, rfl, rfl, rfl,
    rfl, rfl, fun _ => rfl⟩
  · exact toNat_append8 h.gen h.slot
  · have mask : ∀ i < 10, (0x03FF : Word).getLsbD i = true := by decide
    have fields : ∀ n len, n + len ≤ 10 → field (v &&& 0x03FF) n len = field v n len := fun n len fits =>
      field_and v _ n len fun j small => mask _ (by omega)
    refine ⟨actionOfCode_eq_none, ?_, ?_, ?_, ?_, ?_⟩
    · refine optionOfCode_eq_none.trans ?_
      have := field_lt v 8 2
      change 3 ≤ field v 8 2 ↔ field v 8 2 = 3
      omega
    · rw [controlLine, controlLine, fields 0 4 (by decide)]
    · rw [controlAction, controlAction, fields 4 3 (by decide)]
    · unfold controlLate bit
      rw [BitVec.getLsbD_and, mask 7 (by decide), Bool.and_true]
    · rw [controlOption, controlOption, fields 8 2 (by decide)]

/-! ## The insertion of P0..P7 (R16, R178) -/

theorem repetitionOf_eq_none {period count : Nat} :
    repetitionOf period count = none ↔ Config.horizon < period ∨ (period = 0 ∧ count ≠ 0) := by
  unfold repetitionOf
  split
  · simp_all
  · split
    · split <;> simp_all
    · split <;> simp_all

/-- The checks of R178 are those that name an insertion. -/
theorem insertionOf_isSome (p : Vector Word 8) : (insertionOf p).isSome = insertParamsOk p := by
  have option := field_lt p[7] 8 2
  have period := toNat_ofHalves p[2] p[3]
  have eq : insertParamsOk p = true ↔ ¬ (controlAction p[7] = none ∨ controlOption p[7] = none ∨
      repetitionOf (ofHalves p[2] p[3]).toNat p[5].toNat = none) ∧
      (controlAction p[7] = some .pulse → pulseWidthOk p[4].toNat (ofHalves p[2] p[3]).toNat = true) := by
    rw [controlAction, actionOfCode_eq_none, controlOption, optionOfCode_eq_none, repetitionOf_eq_none,
      actionOfCode_eq_some, period, pulseWidthOk, insertParamsOk]
    change _ ↔ ¬ (5 ≤ p[7].toNat / 16 % 8 ∨ 3 ≤ p[7].toNat / 256 % 4 ∨ _) ∧ (p[7].toNat / 16 % 8 = 3 → _)
    simp only [Config.horizon, Bool.and_eq_true, Bool.or_eq_true, decide_eq_true_eq, bne_iff_ne]
    omega
  rw [Bool.eq_iff_iff, eq]
  unfold insertionOf
  dsimp only
  cases action : controlAction p[7] with
  | none => simp
  | some a =>
    cases o : controlOption p[7] with
    | none => simp
    | some o =>
      cases r : repetitionOf (ofHalves p[2] p[3]).toNat p[5].toNat with
      | none => simp
      | some r =>
        simp only [reduceCtorEq, or_self, not_false_eq_true, true_and, Option.some.injEq]
        split
        · rename_i bad
          simp [bad.1, bad.2]
        · rename_i good
          simp only [Option.isSome_some, true_iff]
          exact fun pulse => by simpa [pulse] using good

/-- The insertion that parameters name has its fields in their places (R16, R199). -/
theorem insertionOf_eq_some {p : Vector Word 8} {i : Insertion} (h : insertionOf p = some i) :
    ∃ a o, controlAction p[7] = some a ∧ controlOption p[7] = some o ∧
      repetitionOf (ofHalves p[2] p[3]).toNat p[5].toNat = some i.repetition ∧
      i.due = ofHalves p[0] p[1] ∧ i.job = jobOf (controlLine p[7]) a p[4].toNat ∧
      i.late = controlLate p[7] ∧ i.option = o ∧ i.tag = p[6] := by
  unfold insertionOf at h
  dsimp only at h
  split at h
  · rename_i a o r action option repetition
    split at h
    · cases h
    · cases h
      exact ⟨a, o, action, option, repetition, rfl, rfl, rfl, rfl, rfl⟩
  · cases h

/-- What a job made of a line, an action and a width holds (R15, R16). -/
theorem jobOf_fields (line : Fin 16) (a : Action) (width : Nat) :
    jobAction (jobOf line a width) = a ∧ jobLine (jobOf line a width) = (if actionCode a = 4 then none else some line) ∧
      widthOf (jobOf line a width) = (if actionCode a = 3 then width else 0) := by
  cases a <;> exact ⟨rfl, rfl, rfl⟩

/-- Settles O6: the checks name an insertion exactly where they pass, and its fields are those of their places. -/
theorem insertionFieldsOfParameters : Obligations.InsertionFieldsOfParameters := by
  intro p
  have named := insertionOf_isSome p
  refine ⟨fun bad => by simpa [bad] using named, fun good => ?_⟩
  rw [good] at named
  obtain ⟨i, h⟩ := Option.isSome_iff_exists.1 named
  obtain ⟨a, o, action, option, repetition, due, job, late, opt, tag⟩ := insertionOf_eq_some h
  obtain ⟨periods, counts, hasPeriods, hasCounts, -⟩ := repetitionOf_eq repetition
  obtain ⟨jobs, lines, widths⟩ := jobOf_fields (controlLine p[7]) a p[4].toNat
  have code : actionCode a = p[7].toNat / 16 % 8 := (actionOfCode_eq_some.1 action).symm
  refine ⟨i, h, insertionOk_of_insertionOf h, ?_, ?_, ?_, counts, hasCounts, tag, ?_, ?_, ?_, ?_, ?_⟩
  · rw [due, toNat_ofHalves]
  · rw [periods, toNat_ofHalves]
  · rw [periods]
    exact hasPeriods
  · rw [job, jobs, code]
  · rw [job, lines, code]
    have line : controlLine p[7] = Fin.ofNat 16 (p[7].toNat % 16) := by
      refine Fin.ext ?_
      simp [controlLine, field]
    rw [line]
  · rw [job, widths, code]
  · rw [late, lateCode_controlLate]
  · rw [opt]
    exact (optionOfCode_eq_some.1 option).symm

end Sys2Proof.Machine
end

section
/-! Chapter Register Window and Interrupt, Reactions: the row window (R126 to R130, R205). -/

-- Each lemma waits for the ones before it: elaborated side by side they hold a thread each.
set_option Elab.async false

namespace Sys2Proof.Machine

variable {s t : State} {v w : Word}

/-! ## A word's own bits put back -/

/-- A field read back in its place is the word under the field's mask. -/
theorem fieldWord_field (v : Word) (n len : Nat) :
    fieldWord (field v n len) n = v &&& fieldWord (2 ^ len - 1) n := by
  refine BitVec.eq_of_getLsbD_eq fun i small => ?_
  rw [getLsbD_fieldWord_field v n len small, BitVec.getLsbD_and, Bool.and_comm]
  congr 1
  rw [fieldWord, BitVec.getLsbD_ofNat, Nat.testBit_mul_two_pow, Nat.testBit_two_pow_sub_one,
    decide_eq_true small, Bool.true_and, ← Bool.decide_and]
  exact decide_eq_decide.2 (by omega)

/-- A bit read back in its place is the word under the bit's mask. -/
theorem bitWord_bit (v : Word) {n : Nat} (inside : n < 16) :
    bitWord (bit v n) n = v &&& fieldWord 1 n := by
  have one : field v n 1 = if bit v n then 1 else 0 := by
    have two : field v n 1 < 2 := field_lt v n 1
    have iff : bit v n = true ↔ field v n 1 = 1 := bit_iff v n
    split
    · exact iff.1 ‹_›
    · have := mt iff.2 ‹_›
      omega
  rw [bitWord_eq_fieldWord _ inside, ← one, fieldWord_field]
  rfl

/-- A field of bits that are clear is the word under its mask. -/
theorem fieldWord_zero_eq {len : Nat} (clear : field v 0 len = 0) :
    fieldWord 0 0 = v &&& fieldWord (2 ^ len - 1) 0 := by
  rw [← fieldWord_field, clear]

/-! ## The codes of the row fields -/

theorem edgeSelectOfCode_eq_some {n : Nat} {e : EdgeSelect} :
    edgeSelectOfCode n = some e ↔ n = edgeSelectCode e := by
  constructor
  · intro h
    unfold edgeSelectOfCode at h
    split at h <;> cases h <;> rfl
  · rintro rfl
    cases e <;> rfl

theorem edgeSelectOfCode_isSome {n : Nat} (small : n < 4) : (edgeSelectOfCode n).isSome = (n != 3) := by
  interval_cases n <;> rfl

theorem rowKindOfCode_eq_some {n : Nat} {x : RowKind} : rowKindOfCode n = some x ↔ n = rowKindCode x := by
  constructor
  · intro h
    unfold rowKindOfCode at h
    split at h <;> cases h <;> rfl
  · rintro rfl
    cases x <;> rfl

theorem rowKindOfCode_isSome {n : Nat} (small : n < 4) : (rowKindOfCode n).isSome = (n != 3) := by
  interval_cases n <;> rfl

theorem edgeSelectCode_lt (e : EdgeSelect) : edgeSelectCode e < 4 := by cases e <;> decide

theorem rowKindCode_lt (x : RowKind) : rowKindCode x < 4 := by cases x <;> decide

theorem rowStateCode_lt (x : RowState) : rowStateCode x < 4 := by cases x <;> decide

theorem controlAction_isSome (v : Word) : (controlAction v).isSome = decide (v.toNat / 16 % 8 ≤ 4) := by
  have iff : controlAction v = none ↔ 5 ≤ v.toNat / 16 % 8 := actionOfCode_eq_none
  rw [Bool.eq_iff_iff, decide_eq_true_eq, ← not_iff_not, Bool.not_eq_true, Option.isSome_eq_false_iff,
    Option.isNone_iff_eq_none, iff]
  omega

theorem controlOption_isSome (v : Word) : (controlOption v).isSome = (v.toNat / 256 % 4 != 3) := by
  have iff : controlOption v = none ↔ 3 ≤ v.toNat / 256 % 4 := optionOfCode_eq_none
  have small : v.toNat / 256 % 4 < 4 := Nat.mod_lt _ (by decide)
  rw [Bool.eq_iff_iff, bne_iff_ne, ← not_iff_not, Bool.not_eq_true, Option.isSome_eq_false_iff,
    Option.isNone_iff_eq_none, iff]
  omega

/-! ## A field write -/

/-- A written row's fields by its word (R129, R205). -/
theorem rowWithField_zero {r q : Row} (h : rowWithField 0 v r = some q) :
    ∃ e kind, field v 5 2 = edgeSelectCode e ∧ field v 7 2 = rowKindCode kind ∧
      q = { r with input := Fin.ofNat 8 (field v 2 3), edge := e, kind := kind, oneShot := bit v 9 } := by
  unfold rowWithField at h
  dsimp only at h
  split at h
  · rename_i e kind edge kinds
    cases h
    exact ⟨e, kind, edgeSelectOfCode_eq_some.1 edge, rowKindOfCode_eq_some.1 kinds, rfl⟩
  · cases h

theorem rowWithField_two {r q : Row} (h : rowWithField 2 v r = some q) :
    ∃ a o, field v 4 3 = actionCode a ∧ field v 8 2 = optionCode o ∧
      q = { r with template :=
        { r.template with line := controlLine v, action := a, late := controlLate v, option := o } } := by
  unfold rowWithField at h
  dsimp only at h
  split at h
  · rename_i a o action option
    cases h
    exact ⟨a, o, actionOfCode_eq_some.1 action, optionOfCode_eq_some.1 option, rfl⟩
  · cases h

theorem rowWithField_four {r q : Row} (h : rowWithField 4 v r = some q) :
    field v 0 12 ≤ 255 ∧
      q = { r with
        template := { r.template with
          delay := BitVec.ofNat 8 (field v 0 12) ++ r.template.delay.extractLsb' 0 16 }
        groupMask := BitVec.ofNat 4 (field v 12 4) } := by
  unfold rowWithField at h
  dsimp only at h
  split at h
  · cases h
  · cases h
    exact ⟨by omega, rfl⟩

/-- The values a field write takes (R130): those that name a row. -/
theorem rowWithField_isSome (k : Fin 7) (r : Row) (control : k = 0 → v.toNat % 4 = 0) :
    (rowWithField k v r).isSome = rowValueOk k v := by
  have edge := edgeSelectOfCode_isSome (field_lt v 5 2)
  have kind := rowKindOfCode_isSome (field_lt v 7 2)
  have action := controlAction_isSome v
  have option := controlOption_isSome v
  unfold rowWithField rowValueOk
  fin_cases k
  · have clear := control rfl
    change _ = (decide (v.toNat % 4 = 0) && (field v 5 2 != 3) && (field v 7 2 != 3))
    rw [clear, ← edge, ← kind]
    dsimp only
    cases edgeSelectOfCode (field v 5 2) <;> cases rowKindOfCode (field v 7 2) <;> rfl
  · rfl
  · change _ = (decide (v.toNat / 16 % 8 ≤ 4) && v.toNat / 256 % 4 != 3)
    rw [← action, ← option]
    dsimp only
    cases controlAction v <;> cases controlOption v <;> rfl
  · rfl
  · change (if 255 < field v 0 12 then none else some _ : Option Row).isSome = decide (v.toNat % 4096 ≤ 255)
    have same : field v 0 12 = v.toNat % 4096 := by
      unfold field
      omega
    rw [same]
    by_cases large : 255 < v.toNat % 4096
    · rw [if_pos large, decide_eq_false (by omega)]
      rfl
    · rw [if_neg large, decide_eq_true (by omega)]
      rfl
  · rfl
  · rfl

/-- A delay is put together from its high and its low part (R205). -/
theorem toNat_delay_append (x : BitVec 8) (y : Word) : (x ++ y).toNat = x.toNat * 65536 + y.toNat := by
  have := y.isLt
  rw [BitVec.toNat_append, ← Nat.shiftLeft_add_eq_or_of_lt this, Nat.shiftLeft_eq]

theorem delay_append_low (x : BitVec 8) (y : Word) : (x ++ y : BitVec 24).setWidth 16 = y := by
  have := y.isLt
  refine BitVec.eq_of_toNat_eq ?_
  rw [BitVec.toNat_setWidth, toNat_delay_append]
  omega

theorem delay_append_high (x : BitVec 8) (y : Word) : (x ++ y : BitVec 24).extractLsb' 16 8 = x := by
  have := y.isLt
  have := x.isLt
  refine BitVec.eq_of_toNat_eq ?_
  rw [BitVec.extractLsb'_toNat, toNat_delay_append, Nat.shiftRight_eq_div_pow]
  omega

/-- Each word of a written row reads as before but the one written (R129, R130, R205). -/
theorem rowWord_rowWithField {k : Fin 7} {r q : Row} (h : rowWithField k v r = some q) (off : r.state = .off)
    (control : k = 0 → v.toNat % 4 = 0) (j : Fin 7) :
    rowWord j q = if j = k then v &&& rowMask k else rowWord j r := by
  have whole : v &&& 0xFFFF = v := BitVec.and_allOnes
  match k with
  | 0 =>
    obtain ⟨e, kind, edge, kinds, rfl⟩ := rowWithField_zero h
    have input : (Fin.ofNat 8 (field v 2 3)).val = field v 2 3 := Nat.mod_eq_of_lt (field_lt v 2 3)
    have clear : field v 0 2 = 0 := by
      have := control rfl
      unfold field
      omega
    match j with
    | 0 =>
      simp only [rowWord, off, rowStateCode, input, ← edge, ← kinds, fieldWord_zero_eq clear, fieldWord_field,
        bitWord_bit v (n := 9) (by decide), ← BitVec.and_or_distrib_left]
      exact congrArg (v &&& ·) (by decide)
    | 1 | 2 | 3 | 4 | 5 | 6 => rfl
  | 1 =>
    cases h
    match j with
    | 1 => exact whole.symm
    | 0 | 2 | 3 | 4 | 5 | 6 => rfl
  | 2 =>
    obtain ⟨a, o, action, option, rfl⟩ := rowWithField_two h
    have line : (controlLine v).val = field v 0 4 := Nat.mod_eq_of_lt (field_lt v 0 4)
    have late : lateCode (controlLate v) = field v 7 1 := lateCode_controlLate v
    match j with
    | 2 =>
      simp only [rowWord, controlWord, line, late, ← action, ← option, fieldWord_field, ← BitVec.and_or_distrib_left]
      exact congrArg (v &&& ·) (by decide)
    | 0 | 1 | 3 | 4 | 5 | 6 => rfl
  | 3 =>
    cases h
    match j with
    | 3 => exact (delay_append_low _ v).trans whole.symm
    | 4 =>
      simp only [rowWord, delay_append_high]
      rfl
    | 0 | 1 | 2 | 5 | 6 => rfl
  | 4 =>
    obtain ⟨small, rfl⟩ := rowWithField_four h
    match j with
    | 3 => exact (delay_append_low _ _).trans (BitVec.eq_of_toNat_eq rfl)
    | 4 =>
      have low : (BitVec.ofNat 8 (field v 0 12)).setWidth 16 = fieldWord (field v 0 12) 0 := by
        refine BitVec.eq_of_toNat_eq ?_
        rw [BitVec.toNat_setWidth, BitVec.toNat_ofNat, toNat_fieldWord (by omega)]
        omega
      have high : (BitVec.ofNat 4 (field v 12 4)).toNat = field v 12 4 := Nat.mod_eq_of_lt (field_lt v 12 4)
      simp only [rowWord, delay_append_high, low, high, fieldWord_field, ← BitVec.and_or_distrib_left]
      exact congrArg (v &&& ·) (by decide)
    | 0 | 1 | 2 | 5 | 6 => rfl
  | 5 =>
    cases h
    match j with
    | 5 => exact whole.symm
    | 0 | 1 | 2 | 3 | 4 | 6 => rfl
  | 6 =>
    cases h
    match j with
    | 6 => exact whole.symm
    | 0 | 1 | 2 | 3 | 4 | 5 => rfl

theorem readWord_row (s : State) (j : Fin 7) :
    readWord s (BitVec.ofNat 7 (0x61 + j.val)) = rowWord j (selectedRow s) := by
  fin_cases j <;> rfl

/-- The selected row after it is replaced is the one put there. -/
theorem selectedRow_setSelectedRow (r : Row) (s : State) : selectedRow (setSelectedRow r s) = r :=
  Vector.getElem_set_self s.reactions.sel.isLt

/-- A field write of the window is that of its word (R129). -/
theorem writeRow_eq (k : Fin 7) (s : State) (control : k = 0 → v.toNat % 4 = 0) :
    writeRow k v s = writeRowField k v s := by
  unfold writeRow
  split
  · subst k
    have clear : field v 0 2 = 0 := by
      have := control rfl
      unfold field
      omega
    simp only [clear]
  · rfl

theorem writeRowField_taken {k : Fin 7} {q : Row} (off : (selectedRow s).state = .off)
    (h : rowWithField k v (selectedRow s) = some q) : writeRowField k v s = setSelectedRow q s := by
  simp only [writeRowField, off, h]

theorem writeRowField_range {k : Fin 7} (off : (selectedRow s).state = .off)
    (h : rowWithField k v (selectedRow s) = none) : writeRowField k v s = refuse (.row k) .range s := by
  simp only [writeRowField, off, h]

theorem writeRowField_wrongState (k : Fin 7) (v : Word) (on : (selectedRow s).state ≠ .off) :
    writeRowField k v s = refuse (.row k) .wrongState s := by
  unfold writeRowField
  dsimp only
  split
  · exact absurd ‹_› on
  · rfl
  · rfl

theorem registerAddress_row (k : Fin 7) : registerAddress (.row k) = BitVec.ofNat 7 (0x61 + k.val) := by
  fin_cases k <;> rfl

/-- Settles O7: the row that the written word names, which reads the word in its place. -/
theorem rowFieldWrites : Obligations.RowFieldWrites := by
  intro s k v control a old withRow n u edge kind action option
  have isEdge : edge = edgeSelectCode := funext fun e => by cases e <;> rfl
  have isKind : kind = rowKindCode := funext fun x => by cases x <;> rfl
  have isAction : action = actionCode := funext fun x => by cases x <;> rfl
  have isOption : option = optionCode := funext fun x => by cases x <;> rfl
  have refusal : ∀ reason, refuse (.row k) reason s = refusedWrite reason a s := fun reason => by
    unfold refuse
    rw [registerAddress_row]
    rfl
  refine ⟨fun off ok => ?_, fun off bad => ?_, fun on => ?_⟩
  · obtain ⟨q, h⟩ := Option.isSome_iff_exists.1 ((rowWithField_isSome (v := v) k old control).trans ok)
    obtain ⟨state, lastMatch⟩ := rowWithField_state h
    refine ⟨q, ?_, fun j => ?_, state.trans off, lastMatch, ?_, ?_, ?_, ?_, ?_, ?_, ?_⟩
    · exact congrArg Host.Outcome.next ((writeRow_eq k s control).trans (writeRowField_taken off h))
    · rw [readWord_row, readWord_row]
      exact (congrArg (rowWord j) (selectedRow_setSelectedRow q s)).trans (rowWord_rowWithField h off control j)
    · rintro rfl
      obtain ⟨e, x, hasEdge, hasKind, rfl⟩ := rowWithField_zero h
      refine ⟨(congrFun isEdge e).trans hasEdge.symm, (congrFun isKind x).trans hasKind.symm, ?_⟩
      have input : (Fin.ofNat 8 (field v 2 3)) = Fin.ofNat 8 (n / 4) := Fin.ext (Nat.mod_mod _ 8)
      rw [input]
      rfl
    · rintro rfl
      exact (Option.some.inj h).symm
    · rintro rfl
      obtain ⟨x, o, hasAction, hasOption, rfl⟩ := rowWithField_two h
      refine ⟨(congrFun isAction x).trans hasAction.symm, (congrFun isOption o).trans hasOption.symm, ?_⟩
      have line : controlLine v = Fin.ofNat 16 n := by
        refine Fin.ext ?_
        simp [controlLine, field, n]
      rw [line]
      rfl
    · rintro rfl
      rw [← Option.some.inj h]
      have delay : (u.delay.extractLsb' 16 8 ++ v : BitVec 24) =
          BitVec.ofNat 24 (u.delay.toNat / 65536 * 65536 + n) := by
        have := u.delay.isLt
        have := v.isLt
        refine BitVec.eq_of_toNat_eq ?_
        rw [toNat_delay_append, BitVec.extractLsb'_toNat, Nat.shiftRight_eq_div_pow, BitVec.toNat_ofNat]
        omega
      exact congrArg (fun d => { old with template := { u with delay := d } }) delay
    · rintro rfl
      obtain ⟨small, rfl⟩ := rowWithField_four h
      have delay : (BitVec.ofNat 8 (field v 0 12) ++ u.delay.extractLsb' 0 16 : BitVec 24) =
          BitVec.ofNat 24 (n % 4096 * 65536 + u.delay.toNat % 65536) := by
        have same : field v 0 12 = n % 4096 := congrArg (· % 4096) (Nat.div_one n)
        refine BitVec.eq_of_toNat_eq ?_
        rw [toNat_delay_append, BitVec.extractLsb'_toNat, Nat.shiftRight_eq_div_pow, BitVec.toNat_ofNat,
          BitVec.toNat_ofNat]
        omega
      have mask : BitVec.ofNat 4 (field v 12 4) = BitVec.ofNat 4 (n / 4096) := by
        refine BitVec.eq_of_toNat_eq ?_
        rw [BitVec.toNat_ofNat, BitVec.toNat_ofNat]
        exact Nat.mod_mod _ 16
      exact congrArg₂ (fun d m => { old with template := { u with delay := d }, groupMask := m }) delay mask
    · rintro rfl
      exact (Option.some.inj h).symm
    · rintro rfl
      exact (Option.some.inj h).symm
  · have named := (rowWithField_isSome (v := v) k old control).trans bad
    rw [← refusal]
    exact congrArg Host.Outcome.next ((writeRow_eq k s control).trans
      (writeRowField_range off (Option.isNone_iff_eq_none.1 (Option.isSome_eq_false_iff.1 named))))
  · rw [← refusal]
    exact congrArg Host.Outcome.next ((writeRow_eq k s control).trans (writeRowField_wrongState k v on))

/-! ## The controls (R126, R127) -/

theorem armRefused_iff (r : Row) : armRefused r = true ↔
    (r.kind = .schedule ∧ r.template.action = .pulse ∧ r.template.width = 0) ∨ (r.kind = .trip ∧ r.groupMask = 0) := by
  simp [armRefused, and_assoc]

/-- ROW0 shows a row's state and fields (R129, R205). -/
theorem toNat_rowWord_zero (r : Row) :
    (rowWord 0 r).toNat = rowStateCode r.state + 4 * r.input.val + 32 * edgeSelectCode r.edge +
      128 * rowKindCode r.kind + 512 * (if r.oneShot then 1 else 0) :=
  (((((holdsBelow_fieldWord (len := 2) (rowStateCode_lt r.state)).field 3 r.input.isLt).field 2
    (edgeSelectCode_lt r.edge)).field 2 (rowKindCode_lt r.kind)).bit r.oneShot).value

/-- Settles O8: each control by the row's state, and the seven words of the row window. -/
theorem rowControls : Obligations.RowControls := by
  intro s r withRow bad
  refine ⟨fun off good => ?_, fun off isBad => ?_, fun on => ?_, fun off => ?_, fun on => ?_, fun spent => ?_,
    fun other => ?_, ?_, rfl, ?_, ?_, ?_, rfl, rfl⟩
  · have fine : armRefused (selectedRow s) = false := by
      rw [Bool.eq_false_iff]
      exact fun h => good ((armRefused_iff _).1 h)
    change Host.Outcome.next (controlArm s) = _
    simp only [controlArm, show (selectedRow s).state = .off from off, fine]
    rfl
  · have refused : armRefused (selectedRow s) = true := (armRefused_iff _).2 isBad
    change Host.Outcome.next (controlArm s) = _
    simp only [controlArm, show (selectedRow s).state = .off from off, refused]
    rfl
  · change Host.Outcome.next (controlArm s) = _
    unfold controlArm
    dsimp only
    split
    · exact absurd ‹_› on
    · rfl
    · rfl
  · change Host.Outcome.next (controlDisarm s) = _
    simp only [controlDisarm, show (selectedRow s).state = .off from off]
  · change Host.Outcome.next (controlDisarm s) = _
    unfold controlDisarm
    dsimp only
    split
    · exact absurd ‹_› on
    · rfl
    · rfl
  · change Host.Outcome.next (controlRearm s) = _
    simp only [controlRearm, show (selectedRow s).state = .spent from spent]
    rfl
  · change Host.Outcome.next (controlRearm s) = _
    unfold controlRearm
    dsimp only
    split
    · rfl
    · rfl
    · exact absurd ‹_› other
  · refine (toNat_rowWord_zero r).trans ?_
    cases r.state <;> cases r.edge <;> cases r.kind <;> rfl
  · refine (toNat_controlWord r.template.line r.template.action r.template.late r.template.option).trans ?_
    cases r.template.action <;> cases r.template.late <;> cases r.template.option <;> rfl
  · exact BitVec.toNat_setWidth _ _
  · have high : (r.template.delay.extractLsb' 16 8).toNat = r.template.delay.toNat / 65536 := by
      have := r.template.delay.isLt
      rw [BitVec.extractLsb'_toNat, Nat.shiftRight_eq_div_pow]
      omega
    have low : HoldsBelow ((r.template.delay.extractLsb' 16 8).setWidth 16) (r.template.delay.toNat / 65536) 8 := by
      have := r.template.delay.isLt
      refine ⟨?_, by omega⟩
      rw [BitVec.toNat_setWidth, high]
      omega
    exact (low.field (p := 12) 4 r.groupMask.isLt).value

end Sys2Proof.Machine
end

section
/-! Chapters Output Lines, Groups and Trips, Input Lines: the configuration registers (R65, R66, R76, R87, R88,
R107 to R109, R202). A taken write reads back what was written in the bits that have fields: each field of the word
put together again is the written word under its mask (`fieldWord_field`, `bitWord_bit`). -/

-- Each lemma waits for the ones before it: elaborated side by side they hold a thread each.
set_option Elab.async false

namespace Sys2Proof.Machine

variable {s t : State} {v w : Word}

/-! ## Codes and places -/

theorem field_from_zero (v : Word) (len : Nat) : field v 0 len = v.toNat % 2 ^ len := by
  rw [field, Nat.pow_zero, Nat.div_one]

theorem safeLevelOfCode_eq_some {n : Nat} {x : SafeLevel} :
    safeLevelOfCode n = some x ↔ n = safeLevelCode x := by
  constructor
  · intro h
    unfold safeLevelOfCode at h
    split at h <;> cases h <;> rfl
  · rintro rfl
    cases x <;> rfl

theorem safeLevelOfCode_isSome {n : Nat} (small : n < 4) : (safeLevelOfCode n).isSome = (n != 3) := by
  interval_cases n <;> rfl

theorem tripUseOfCode_eq_some {n : Nat} {x : TripUse} : tripUseOfCode n = some x ↔ n = tripUseCode x := by
  constructor
  · intro h
    unfold tripUseOfCode at h
    split at h <;> cases h <;> rfl
  · rintro rfl
    cases x <;> rfl

theorem tripUseOfCode_isSome {n : Nat} (small : n < 4) : (tripUseOfCode n).isSome = (n != 3) := by
  interval_cases n <;> rfl

/-- A code of two bits that is not 3 names something, and 3 names nothing. -/
theorem two_bit_code {α : Type} {f : Nat → Option α} (isSome : ∀ {n}, n < 4 → (f n).isSome = (n != 3))
    {n : Nat} (small : n < 4) : (n = 3 → f n = none) ∧ (n ≠ 3 → ∃ x, f n = some x) := by
  have named := isSome small
  constructor
  · rintro rfl
    exact Option.isNone_iff_eq_none.1 (Option.isSome_eq_false_iff.1 named)
  · exact fun other => Option.isSome_iff_exists.1 (named.trans (bne_iff_ne.2 other))

theorem readWord_lineCfg (l : Fin 16) (s : State) :
    readWord s (BitVec.ofNat 7 (0x20 + l.val)) = lineCfgWord s.lines.lines[l] := by
  fin_cases l <;> rfl

theorem readWord_pairCfg (p : Fin 8) (s : State) :
    readWord s (BitVec.ofNat 7 (0x30 + p.val)) = pairCfgWord s.lines.pairs[p] := by
  fin_cases p <;> rfl

theorem readWord_groupCfg (g : Fin 4) (s : State) :
    readWord s (BitVec.ofNat 7 (0x38 + g.val)) = groupCfgWord s.groups[g] := by
  fin_cases g <;> rfl

theorem readWord_inCfg (n : Fin 8) (s : State) :
    readWord s (BitVec.ofNat 7 (0x40 + n.val)) = inCfgWord s.capture.inputs[n] := by
  fin_cases n <;> rfl

/-! ## Lines and pairs -/

theorem lineCfgWord_configuredLine (x : Line) {safe : SafeLevel} (code : field v 2 2 = safeLevelCode safe) :
    lineCfgWord (configuredLine x v safe) = v &&& 0x000F := by
  have mode : decide ((configuredLine x v safe).mode = .drive) = bit v 0 := by
    unfold configuredLine
    cases bit v 0 <;> rfl
  have polarity : decide ((configuredLine x v safe).polarity = .activeLow) = bit v 1 := by
    unfold configuredLine
    cases bit v 1 <;> rfl
  have safes : (configuredLine x v safe).safe = safe := rfl
  rw [lineCfgWord, mode, polarity, safes, ← code, fieldWord_field, bitWord_bit v (by decide),
    bitWord_bit v (by decide), ← BitVec.and_or_distrib_left, ← BitVec.and_or_distrib_left]
  exact congrArg (v &&& ·) (by decide)

theorem pairCfgWord_configuredPair (x : Pair) (v : Word) :
    pairCfgWord (configuredPair x v) =
      (v &&& 0x87FF) ||| (if (configuredPair x v).running.isSome then 0x4000 else 0) := by
  have interlock : (configuredPair x v).interlock = bit v 15 := by
    unfold configuredPair
    dsimp only
    split <;> rfl
  have guard : (configuredPair x v).guardTicks = field v 0 11 := by
    unfold configuredPair
    dsimp only
    split <;> rfl
  have bit14 (b : Bool) : bitWord b 14 = if b then 0x4000 else 0 := by cases b <;> rfl
  rw [pairCfgWord, interlock, guard, fieldWord_field, bitWord_bit v (by decide), bit14, BitVec.or_assoc,
    BitVec.or_comm _ (v &&& _), ← BitVec.or_assoc, ← BitVec.and_or_distrib_left]
  exact congrArg (fun m => (v &&& m) ||| _) (by decide)

theorem writeLineCfg_wrongState (l : Fin 16) (v : Word) (on : s.groups[groupOf l].state ≠ .off) :
    writeLineCfg l v s = refuse (.lineCfg l) .wrongState s := by
  unfold writeLineCfg
  split
  · exact absurd ‹_› on
  · rfl
  · rfl

theorem writePairCfg_wrongState (p : Fin 8) (v : Word) (on : s.groups[groupOfPair p].state ≠ .off) :
    writePairCfg p v s = refuse (.pairCfg p) .wrongState s := by
  unfold writePairCfg
  split
  · exact absurd ‹_› on
  · rfl
  · rfl

theorem writePairCfg_off {p : Fin 8} (off : s.groups[groupOfPair p].state = .off) (v : Word) :
    writePairCfg p v s = if pairRefused p v s then refuse (.pairCfg p) .range s
      else setPair p (configuredPair s.lines.pairs[p] v) s := by
  simp only [writePairCfg, off]

theorem writeLineCfg_of_code {l : Fin 16} {safe : SafeLevel} (off : s.groups[groupOf l].state = .off)
    (named : safeLevelOfCode (field v 2 2) = some safe) :
    writeLineCfg l v s = if safeConflict l safe s then refuse (.lineCfg l) .range s
      else withLines { s.lines with lines := s.lines.lines.set l (configuredLine s.lines.lines[l] v safe) } s := by
  simp only [writeLineCfg, off, named]

theorem writeLineCfg_of_no_code {l : Fin 16} (off : s.groups[groupOf l].state = .off)
    (unnamed : safeLevelOfCode (field v 2 2) = none) : writeLineCfg l v s = refuse (.lineCfg l) .range s := by
  simp only [writeLineCfg, off, unnamed]

theorem safeConflict_iff (l : Fin 16) (safe : SafeLevel) (s : State) : safeConflict l safe s = true ↔
    safe = .active ∧ s.lines.pairs[pairOf l].interlock = true ∧ s.lines.lines[partnerOf l].safe = .active := by
  simp only [safeConflict, Bool.and_eq_true, decide_eq_true_eq, and_assoc]

theorem pairRefused_iff (p : Fin 8) (v : Word) (s : State) : pairRefused p v s = true ↔
    1023 < v.toNat % 2048 ∨ (bit v 15 = true ∧ s.lines.pairs[p].interlock = false ∧
      ((s.lines.lines[lineOn p 0].active = true ∧ s.lines.lines[lineOn p 1].active = true) ∨
        (s.lines.lines[lineOn p 0].safe = .active ∧ s.lines.lines[lineOn p 1].safe = .active))) := by
  simp only [pairRefused, Config.guardMax, field_from_zero, Bool.or_eq_true, Bool.and_eq_true, decide_eq_true_eq,
    Bool.not_eq_true', and_assoc]
  rfl

/-- Settles O9: the writes of LINE_CFG and PAIR_CFG by the group's state and their checks. -/
theorem lineAndPairConfigWrites : Obligations.LineAndPairConfigWrites := by
  refine ⟨by decide, fun s n v => ?_, fun s p v => ?_⟩
  · intro a bad
    have small : field v 2 2 < 4 := field_lt v 2 2
    refine ⟨fun on => congrArg Host.Outcome.next (writeLineCfg_wrongState n v on), fun off isBad => ?_,
      fun off good => ?_⟩
    · refine congrArg Host.Outcome.next ?_
      obtain three | ⟨one, conflict⟩ := isBad
      · exact writeLineCfg_of_no_code off ((two_bit_code safeLevelOfCode_isSome small).1 three)
      · refine (writeLineCfg_of_code off (safeLevelOfCode_eq_some.2 one : _ = some .active)).trans ?_
        rw [if_pos ((safeConflict_iff n .active s).2 ⟨rfl, conflict⟩)]
        rfl
    · obtain ⟨safe, named⟩ := (two_bit_code safeLevelOfCode_isSome small).2 fun three => good (.inl three)
      have code := safeLevelOfCode_eq_some.1 named
      have free : safeConflict n safe s = false := by
        rw [Bool.eq_false_iff, Ne, safeConflict_iff]
        rintro ⟨rfl, conflict⟩
        exact good (.inr ⟨code, conflict⟩)
      refine ⟨safe, (by cases safe <;> rfl : _ = safeLevelCode safe).trans code.symm, ?_, ?_⟩
      · refine congrArg Host.Outcome.next ((writeLineCfg_of_code off named).trans ?_)
        rw [free]
        rfl
      · rw [readWord_lineCfg]
        refine Eq.trans (congrArg lineCfgWord (Vector.getElem_set_self n.isLt)) ?_
        exact lineCfgWord_configuredLine s.lines.lines[n] code
  · intro a x y old on bad
    refine ⟨fun run => congrArg Host.Outcome.next (writePairCfg_wrongState p v run), fun off isBad => ?_,
      fun off good => ?_⟩
    · refine congrArg Host.Outcome.next ((writePairCfg_off off v).trans ?_)
      rw [if_pos ((pairRefused_iff p v s).2 isBad)]
      rfl
    · have new : configuredPair old v =
          { interlock := on, guardTicks := v.toNat % 2048
            running := if on = old.interlock then old.running else none
            deferral := if on = old.interlock then old.deferral else none } := by
        have guard : field v 0 11 = v.toNat % 2048 := field_from_zero v 11
        by_cases same : on = old.interlock
        · simp only [same, if_true]
          simp only [configuredPair, guard, show bit v 15 = old.interlock from same, if_true]
        · simp only [if_neg same]
          simp only [configuredPair, guard, if_neg (show ¬ bit v 15 = old.interlock from same)]
          rfl
      intro q u
      refine ⟨?_, ?_⟩
      · refine congrArg Host.Outcome.next ((writePairCfg_off off v).trans ?_)
        rw [if_neg (mt (pairRefused_iff p v s).1 good)]
        exact congrArg (fun q => setPair p q s) new
      · rw [readWord_pairCfg]
        refine Eq.trans (congrArg pairCfgWord (Vector.getElem_set_self p.isLt)) ?_
        have word := pairCfgWord_configuredPair old v
        rw [new] at word
        exact word

/-! ## Groups -/

theorem writeGroupCfg_wrongState (g : Fin 4) (v : Word) (on : s.groups[g].state ≠ .off) :
    writeGroupCfg g v s = refuse (.groupCfg g) .wrongState s := by
  unfold writeGroupCfg
  split
  · exact absurd ‹_› on
  · rfl
  · rfl

theorem writeGroupCfg_taken {g : Fin 4} {u0 u1 : TripUse} (off : s.groups[g].state = .off)
    (named0 : tripUseOfCode (field v 0 2) = some u0) (named1 : tripUseOfCode (field v 2 2) = some u1) :
    writeGroupCfg g v s =
      withGroup g { s.groups[g] with use0 := u0, use1 := u1, policy := if bit v 4 then .purge else .hold } s := by
  simp only [writeGroupCfg, off, named0, named1]

theorem writeGroupCfg_refused {g : Fin 4} (off : s.groups[g].state = .off)
    (bad : tripUseOfCode (field v 0 2) = none ∨ tripUseOfCode (field v 2 2) = none) :
    writeGroupCfg g v s = refuse (.groupCfg g) .range s := by
  simp only [writeGroupCfg, off]
  split
  · rename_i named0 named1
    simp [named0, named1] at bad
  · rfl

theorem groupCfgWord_written (x : Group) {u0 u1 : TripUse} (code0 : field v 0 2 = tripUseCode u0)
    (code1 : field v 2 2 = tripUseCode u1) :
    groupCfgWord { x with use0 := u0, use1 := u1, policy := if bit v 4 then .purge else .hold } = v &&& 0x001F := by
  have policy : decide ((if bit v 4 then TripPolicy.purge else .hold) = .purge) = bit v 4 := by
    cases bit v 4 <;> rfl
  simp only [groupCfgWord, policy, ← code0, ← code1, fieldWord_field, bitWord_bit v (n := 4) (by decide),
    ← BitVec.and_or_distrib_left]
  exact congrArg (v &&& ·) (by decide)

/-! ## Inputs -/

theorem filterOk_eq_false {n : Nat} (small : n < 16) : filterOk n = false ↔ n = 1 ∨ 8 < n := by
  interval_cases n <;> decide

theorem inCfgWord_configuredInput (i : Input) {e : EdgeSelect} (code : field v 1 2 = edgeSelectCode e) :
    inCfgWord (configuredInput i (bit v 0) e (bit v 3) (field v 4 4)) = v &&& 0x00FF := by
  have word : inCfgWord (configuredInput i (bit v 0) e (bit v 3) (field v 4 4)) =
      inCfgWord { i with enable := bit v 0, edge := e, queued := bit v 3, filter := field v 4 4 } := by
    unfold configuredInput
    dsimp only
    split
    · rfl
    · split
      · rfl
      · split <;> rfl
  rw [word]
  simp only [inCfgWord, ← code, fieldWord_field, bitWord_bit v (n := 0) (by decide),
    bitWord_bit v (n := 3) (by decide), ← BitVec.and_or_distrib_left]
  exact congrArg (v &&& ·) (by decide)

/-- What a taken IN_CFG write does to an input (R107, R108): its fields, and by what changes its runtime state. -/
theorem configuredInput_spec (i : Input) (enable : Bool) (e : EdgeSelect) (queued : Bool) (filter : Nat) :
    let x := configuredInput i enable e queued filter
    (x.enable = enable ∧ x.edge = e ∧ x.queued = queued ∧ x.filter = filter ∧ x.sampled = i.sampled ∧
      x.runStart = i.runStart) ∧
    (i.enable = false → enable = true → x.settled = i.sampled ∧ x.candidate = i.sampled ∧ x.runCount = 0) ∧
    (i.enable = true → enable = false ∨ filter ≠ i.filter →
      x.settled = i.settled ∧ x.candidate = i.settled ∧ x.runCount = 0) ∧
    (i.enable = false ∧ enable = false ∨ i.enable = true ∧ enable = true ∧ filter = i.filter →
      x.settled = i.settled ∧ x.candidate = i.candidate ∧ x.runCount = i.runCount) := by
  unfold configuredInput
  cases h : i.enable <;> cases enable <;> by_cases same : filter = i.filter <;> simp [same]

theorem writeInCfg_refused (n : Fin 8) (bad : field v 1 2 = 3 ∨ filterOk (field v 4 4) = false) :
    writeInCfg n v s = refuse (.inCfg n) .range s := by
  unfold writeInCfg
  obtain three | bad := bad
  · rw [three]
    rfl
  · split
    · rw [bad]
      rfl
    · rfl

theorem writeInCfg_taken (n : Fin 8) {e : EdgeSelect} (edge : edgeSelectOfCode (field v 1 2) = some e)
    (filter : filterOk (field v 4 4) = true) : writeInCfg n v s =
      setInput n (configuredInput s.capture.inputs[n] (bit v 0) e (bit v 3) (field v 4 4)) s := by
  simp only [writeInCfg, edge, filter, if_true]

/-- Settles O10: the writes of GROUP_CFG, GROUP_STAT, IN_CFG and FILTER_INT by their checks. -/
theorem groupAndInputConfigWrites : Obligations.GroupAndInputConfigWrites := by
  refine ⟨fun s g v => ?_, fun s g v => ?_, fun s n v => ?_, fun s v => ?_⟩
  · intro a bad
    have small0 : field v 0 2 < 4 := field_lt v 0 2
    have small1 : field v 2 2 < 4 := field_lt v 2 2
    have zero : field v 0 2 = v.toNat % 4 := field_from_zero v 2
    refine ⟨fun on => congrArg Host.Outcome.next (writeGroupCfg_wrongState g v on), fun off isBad => ?_,
      fun off good => ?_⟩
    · have none0 := (two_bit_code tripUseOfCode_isSome small0).1
      have none1 := (two_bit_code tripUseOfCode_isSome small1).1
      exact congrArg Host.Outcome.next
        (writeGroupCfg_refused off (isBad.imp (fun three => none0 (zero.trans three)) none1))
    · intro use
      obtain ⟨u0, named0⟩ := (two_bit_code tripUseOfCode_isSome small0).2 fun three =>
        good (.inl (zero.symm.trans three))
      obtain ⟨u1, named1⟩ := (two_bit_code tripUseOfCode_isSome small1).2 fun three => good (.inr three)
      have code0 := tripUseOfCode_eq_some.1 named0
      have code1 := tripUseOfCode_eq_some.1 named1
      refine ⟨u0, u1, (by cases u0 <;> rfl : use u0 = tripUseCode u0).trans (code0.symm.trans zero),
        (by cases u1 <;> rfl : use u1 = tripUseCode u1).trans code1.symm, ?_, ?_⟩
      · refine congrArg Host.Outcome.next ((writeGroupCfg_taken off named0 named1).trans ?_)
        rfl
      · rw [readWord_groupCfg]
        exact (congrArg groupCfgWord (Vector.getElem_set_self g.isLt)).trans
          (groupCfgWord_written s.groups[g] code0 code1)
  · change Host.Outcome.next (writeGroupStat g v s) = _
    refine congrArg Host.Outcome.next ?_
    unfold writeGroupStat
    split
    · rename_i small
      rw [if_pos (by omega)]
      have view : (⟨v.toNat, small⟩ : Fin 4) = Fin.ofNat 4 v.toNat := Fin.ext (Nat.mod_eq_of_lt small).symm
      rw [view]
      rfl
    · rw [if_neg (by omega)]
      rfl
  · intro a i filter bad
    have small : field v 4 4 < 16 := field_lt v 4 4
    have code : field v 1 2 < 4 := field_lt v 1 2
    refine ⟨fun isBad => ?_, fun good => ?_⟩
    · exact congrArg Host.Outcome.next (writeInCfg_refused n (isBad.imp id (filterOk_eq_false small).2))
    · obtain ⟨e, named⟩ := (two_bit_code edgeSelectOfCode_isSome code).2 fun three => good (.inl three)
      have fine : filterOk (field v 4 4) = true := by
        rw [← Bool.not_eq_false, filterOk_eq_false small]
        exact fun h => good (.inr h)
      have edge := edgeSelectOfCode_eq_some.1 named
      obtain ⟨⟨enable, edges, queued, filters, sampled, start⟩, enabled, discarded, kept⟩ :=
        configuredInput_spec i (bit v 0) e (bit v 3) (field v 4 4)
      refine ⟨configuredInput i (bit v 0) e (bit v 3) (field v 4 4), ⟨?_, ?_⟩, enable, ?_, queued, filters, sampled,
        start, ?_, ?_, ?_⟩
      · exact congrArg Host.Outcome.next (writeInCfg_taken n named fine)
      · rw [readWord_inCfg]
        exact (congrArg inCfgWord (Vector.getElem_set_self n.isLt)).trans (inCfgWord_configuredInput i edge)
      · rw [edges]
        exact (by cases e <;> rfl : _ = edgeSelectCode e).trans edge.symm
      · rw [enable]
        exact enabled
      · rw [enable, filters]
        exact discarded
      · rw [enable, filters]
        exact kept
  · change Host.Outcome.next (writeFilterInt v s) = _
    refine congrArg Host.Outcome.next ?_
    unfold writeFilterInt
    split
    · exact (if_pos ‹_›).symm
    · exact (if_neg ‹_›).symm

end Sys2Proof.Machine
end

section
/-! Chapters Input Lines, Reports, Reactions, Register Window: the queues' registers and FLAGS (R118 to R120, R137,
R167 to R169, R196, R204). -/

-- Each lemma waits for the ones before it: elaborated side by side they hold a thread each.
set_option Elab.async false

namespace Sys2Proof.Machine

variable {s t : State} {v w : Word}

/-! ## FLAGS -/

/-- FLAGS holds eleven flags and nothing above them (R196). -/
theorem toNat_flagsWord_lt (f : Flags) : (flagsWord f).toNat < 2048 := by
  have word := ((((((((((holdsBelow_bitWord f.cmdDone).bit (p := 1) f.batchEnd).bit (p := 2) f.trip[0]).bit
    (p := 3) f.trip[1]).bit (p := 4) f.trip[2]).bit (p := 5) f.trip[3]).bit (p := 6) f.capLost).bit (p := 7)
    f.rptLost).bit (p := 8) f.reactLost).bit (p := 9) f.poolLow).bit (p := 10) f.busReject
  exact word.value.trans_lt word.fits

/-- A write of FLAGS clears the flags whose bits are 1 (R196). -/
theorem flagAt_clearFlags (v : Word) (f : Flags) (n : Fin 11) :
    flagAt (clearFlags v f) n = (flagAt f n && !v.getLsbD n.val) := by
  match n with
  | 0 | 1 | 6 | 7 | 8 | 9 | 10 => rfl
  | 2 | 3 | 4 | 5 => exact Vector.getElem_ofFn _

theorem flagsWord_clearFlags (v : Word) (f : Flags) : flagsWord (clearFlags v f) = flagsWord f &&& ~~~v := by
  refine BitVec.eq_of_getLsbD_eq fun i small => ?_
  rw [BitVec.getLsbD_and, BitVec.getLsbD_not, decide_eq_true small, Bool.true_and]
  by_cases flag : i < 11
  · have cleared := flagAt_clearFlags v f ⟨i, flag⟩
    rw [← getLsbD_flagsWord, ← getLsbD_flagsWord] at cleared
    exact cleared
  · have above (g : Flags) : (flagsWord g).getLsbD i = false := by
      rw [Bool.eq_false_iff]
      exact fun isSet => flag (Nat.lt_succ_of_le (le_of_getLsbD_flagsWord isSet))
    rw [above, above, Bool.false_and]

/-! ## The heads of the queues -/

theorem reportKindCode_lt (k : ReportKind) : reportKindCode k < 16 := by cases k <;> decide

theorem originCode_lt (o : Origin) : originCode o < 32 := by
  cases o with
  | host => decide
  | batch => decide
  | reaction k => exact Nat.add_lt_add_left k.isLt 16

/-- CAP_HEAD0 of a record (R204). -/
theorem toNat_capHeadWord_zero (r : Capture) (rest : List Capture) :
    (capHeadWord 0 (r :: rest)).toNat = r.seq.toNat + 256 * r.line.val +
      2048 * (if decide (r.edge = .fall) then 1 else 0) + 4096 * (if r.filtered then 1 else 0) := by
  have seq : HoldsBelow (r.seq.setWidth 16) r.seq.toNat 8 := by
    have := r.seq.isLt
    exact ⟨(BitVec.toNat_setWidth _ _).trans (Nat.mod_eq_of_lt (by omega)), this⟩
  exact (((seq.field (p := 8) 3 r.line.isLt).bit (p := 11) (decide (r.edge = .fall))).bit (p := 12) r.filtered).value

/-- RPT_HEAD0 of a record (R204). -/
theorem toNat_reportHead (r : Report) :
    (reportHead r).toNat = reportKindCode r.kind + 16 * (if r.final then 1 else 0) +
      32 * (if r.handle.isSome then 1 else 0) + 64 * (if r.line.isSome then 1 else 0) +
      128 * (r.line.map Fin.val).getD 0 + 2048 * originCode r.origin := by
  have line : (r.line.map Fin.val).getD 0 < 2 ^ 4 := by
    cases r.line with
    | none => decide
    | some l => exact l.isLt
  exact ((((((holdsBelow_fieldWord (len := 4) (reportKindCode_lt r.kind)).bit (p := 4) r.final).bit (p := 5)
    r.handle.isSome).bit (p := 6) r.line.isSome).field (p := 7) 4 line).field (p := 11) 5 (originCode_lt r.origin)).value

theorem readWord_rptHead (k : Fin 8) (s : State) :
    readWord s (BitVec.ofNat 7 (0x52 + k.val)) = rptHeadWord k s.reports.queue := by
  fin_cases k <;> rfl

/-! ## The writes -/

theorem popCapture_nil (h : s.capture.queue = []) : popCapture s = refuse .capPop .queueEmpty s := by
  simp only [popCapture, h]

theorem popCapture_cons {r : Capture} {rest : List Capture} (h : s.capture.queue = r :: rest) :
    popCapture s = withCapture { s.capture with queue := rest } s := by
  simp only [popCapture, h]

theorem popReport_nil (h : s.reports.queue = []) : popReport s = refuse .rptPop .queueEmpty s := by
  simp only [popReport, h]

theorem popReport_cons {r : Report} {rest : List Report} (h : s.reports.queue = r :: rest) :
    popReport s = withReports { s.reports with queue := rest } s := by
  simp only [popReport, h]

/-- Settles O53: FLAGS bit by bit, the writes by their own equations, and the heads by their fields' numbers. -/
theorem queueAndFlagRegisterWrites : Obligations.QueueAndFlagRegisterWrites := by
  intro s v
  refine ⟨?flags, ⟨clearFlags v s.irq.flags, ⟨rfl, flagsWord_clearFlags v s.irq.flags⟩,
    flagAt_clearFlags v s.irq.flags⟩, fun empty => congrArg Host.Outcome.next (popCapture_nil empty),
    fun r rest queue => congrArg Host.Outcome.next (popCapture_cons queue),
    fun empty => congrArg Host.Outcome.next (popReport_nil empty),
    fun r rest queue => congrArg Host.Outcome.next (popReport_cons queue), rfl, rfl, rfl, rfl, rfl,
    fun empty => ?_, fun r rest queue => ?_, fun empty k => ?_, fun r rest queue => ?_⟩
  case flags =>
    intro f w
    have at_ := getLsbD_flagsWord f
    refine ⟨at_ 0, at_ 1, fun g => ?_, at_ 6, at_ 7, at_ 8, at_ 9, at_ 10, toNat_flagsWord_lt f⟩
    match g with
    | 0 => exact at_ 2
    | 1 => exact at_ 3
    | 2 => exact at_ 4
    | 3 => exact at_ 5
  · have word (k : Fin 3) : capHeadWord k s.capture.queue = 0 := by rw [empty, capHeadWord]
    exact ⟨word 0, word 1, word 2⟩
  · have word (k : Fin 3) : capHeadWord k s.capture.queue = capHeadWord k (r :: rest) := by rw [queue]
    refine ⟨(congrArg BitVec.toNat (word 0)).trans ((toNat_capHeadWord_zero r rest).trans ?_), word 1, word 2⟩
    cases r.edge <;> rfl
  · rw [readWord_rptHead, empty, rptHeadWord]
  · have word (k : Fin 8) : rptHeadWord k s.reports.queue = rptHeadWord k (r :: rest) := by rw [queue]
    refine ⟨(congrArg BitVec.toNat (word 0)).trans ((toNat_reportHead r).trans ?_), (word 1).trans ?_, word 2, word 3,
      word 4, word 5, word 6, fun small => ?_⟩
    · cases r.kind <;> cases r.line <;> cases r.origin <;> rfl
    · change (r.handle.map handleWord).getD 0 = _
      cases r.handle <;> rfl
    · exact (congrArg BitVec.toNat (word 7)).trans ((toNat_fieldWord (by omega)).trans (Nat.mul_one _))

end Sys2Proof.Machine
end

section
/-! Chapter Register Window and Interrupt: the register map, its reads and its refusals (R192 to R195, R203). -/

-- Each lemma waits for the ones before it: elaborated side by side they hold a thread each.
set_option Elab.async false

namespace Sys2Proof.Machine

variable {s t : State} {v w : Word}

/-! ## Words with a bit for each line -/

/-- A word with a bit for each number shows each at its place. -/
theorem getLsbD_wordOfBits (b : Nat → Bool) {i : Nat} (small : i < 16) (n : Nat) :
    (wordOfBits n b).getLsbD i = (decide (i < n) && b i) := by
  unfold wordOfBits
  induction n with
  | zero => simp
  | succ n ih =>
    rw [List.range_succ, List.foldl_append, List.foldl_cons, List.foldl_nil, BitVec.getLsbD_or, ih,
      getLsbD_bitWord _ _ small]
    by_cases here : n = i
    · subst n
      simp
    · simp [here, show i < n + 1 ↔ i < n by omega]

theorem toNat_wordOfBits_lt (b : Nat → Bool) (n : Nat) : (wordOfBits n b).toNat < 2 ^ n := by
  refine Nat.lt_pow_two_of_testBit _ fun i above => ?_
  rw [BitVec.testBit_toNat]
  by_cases word : i < 16
  · rw [getLsbD_wordOfBits b word, decide_eq_false (by omega), Bool.false_and]
  · exact BitVec.getLsbD_of_ge _ _ (by omega)

theorem getLsbD_intended (l : Fin 16) (s : State) :
    (readWord s 0x75).getLsbD l.val = s.lines.lines[l].active := by
  have whole : readWord s 0x75 = wordOfBits 16 fun n => s.lines.lines[Fin.ofNat 16 n].active := rfl
  rw [whole, getLsbD_wordOfBits _ l.isLt, decide_eq_true l.isLt, Bool.true_and]
  exact congrArg (fun l => s.lines.lines[l].active) (Fin.ofNat_val_eq_self l)

theorem getLsbD_deferred (l : Fin 16) (s : State) : (readWord s 0x76).getLsbD l.val = lineDeferred s l := by
  have whole : readWord s 0x76 = wordOfBits 16 fun n => lineDeferred s (Fin.ofNat 16 n) := rfl
  rw [whole, getLsbD_wordOfBits _ l.isLt, decide_eq_true l.isLt, Bool.true_and, Fin.ofNat_val_eq_self]

theorem getLsbD_inLevels (n : Fin 8) (s : State) :
    (readWord s 0x77).getLsbD n.val = s.capture.inputs[n].settled := by
  have whole : readWord s 0x77 = wordOfBits 8 fun n => s.capture.inputs[Fin.ofNat 8 n].settled := rfl
  rw [whole, getLsbD_wordOfBits _ (by omega), decide_eq_true n.isLt, Bool.true_and]
  exact congrArg (fun n => s.capture.inputs[n].settled) (Fin.ofNat_val_eq_self n)

theorem toNat_inLevels_lt (s : State) : (readWord s 0x77).toNat < 256 := by
  have whole : readWord s 0x77 = wordOfBits 8 fun n => s.capture.inputs[Fin.ofNat 8 n].settled := rfl
  rw [whole]
  exact toNat_wordOfBits_lt _ 8

/-! ## Names and addresses (R192, R194) -/

theorem registerAddress_registerAt : ∀ a : BitVec 7, registerAddress (registerAt a) = a := by decide

theorem registerAt_unmapped : ∀ a : BitVec 7, registerAt a = .unmapped a ↔ a ∈ wordsWithoutRegister := by decide

/-- What a register reads after device reset, by its name (R194). -/
theorem readRegister_reset (r : Register) (mapped : ∀ a, r ≠ .unmapped a) (pin : r ≠ .pinStat) (level : r ≠ .inLevels) :
    readRegister State.reset r = resetWord (registerAddress r) := by
  cases r with
  | param k => revert k; decide
  | res k => revert k; decide
  | lineCfg n => revert n; decide
  | pairCfg p => revert p; decide
  | groupCfg g => revert g; decide
  | groupStat g => revert g; decide
  | inCfg n => revert n; decide
  | capHead k => revert k; decide
  | rptHead k => revert k; decide
  | row k => revert k; decide
  | freeCount => exact congrArg numWord ((List.length_map _).trans List.length_range)
  | unmapped a => exact absurd rfl (mapped a)
  | pinStat => exact absurd rfl pin
  | inLevels => exact absurd rfl level
  | _ => decide

theorem readWord_reset (a : BitVec 7) (pin : a ≠ 0x74) (level : a ≠ 0x77) :
    readWord State.reset a = resetWord a := by
  have address := registerAddress_registerAt a
  have noRegister : ∀ a ∈ wordsWithoutRegister, readWord State.reset a = resetWord a := by decide
  by_cases mapped : ∀ b, registerAt a ≠ .unmapped b
  · refine (readRegister_reset (registerAt a) mapped (fun h => pin ?_) (fun h => level ?_)).trans
      (congrArg resetWord address) <;> rw [← address, h] <;> rfl
  · push Not at mapped
    obtain ⟨b, h⟩ := mapped
    have same : b = a := (congrArg registerAddress h).symm.trans address
    exact noRegister a ((registerAt_unmapped a).1 (same ▸ h))

/-! ## The status words -/

theorem rejectCode_lt (r : RejectReason) : rejectCode r < 8 := by cases r <;> decide

theorem groupStateCode_lt (x : GroupState) : groupStateCode x < 4 := by cases x <;> decide

theorem causeCode_lt (c : Option Cause) : causeCode c < 8 := by
  rcases c with _ | c
  · decide
  · cases c <;> decide

theorem batchReasonCode_lt (r : Option BatchReason) : batchReasonCode r < 8 := by
  rcases r with _ | r
  · decide
  · cases r <;> decide

theorem resultCode_lt (r : ResultCode) : resultCode r < 16 := by cases r <;> decide

theorem toNat_rejectWord (x : Rejection) :
    (rejectWord (some x)).toNat = x.address.toNat + 256 * rejectCode x.reason := by
  have address : HoldsBelow (x.address.setWidth 16) x.address.toNat 7 := by
    have := x.address.isLt
    exact ⟨(BitVec.toNat_setWidth _ _).trans (Nat.mod_eq_of_lt (by omega)), this⟩
  exact (address.field (p := 8) 3 (rejectCode_lt x.reason)).value

theorem toNat_groupStatWord_zero (x : Group) (view : x.view = 0) : (groupStatWord x).toNat =
    groupStateCode x.state + 16 * (if x.causes.pin0 then 1 else 0) + 32 * (if x.causes.pin1 then 1 else 0) +
      64 * (if x.causes.reaction then 1 else 0) + 128 * (if x.causes.host then 1 else 0) +
      256 * causeCode x.firstCause + 2048 * (if x.purgePending then 1 else 0) := by
  rw [groupStatWord, view]
  exact (((((((holdsBelow_fieldWord (len := 2) (groupStateCode_lt x.state)).bit (p := 4) x.causes.pin0).bit (p := 5)
    x.causes.pin1).bit (p := 6) x.causes.reaction).bit (p := 7) x.causes.host).field (p := 8) 3
    (causeCode_lt x.firstCause)).bit (p := 11) x.purgePending).value

theorem toNat_batchStatWord (b : BatchUnit) (staged : b.staging.length ≤ 16) (failing : b.failing ≤ 15) :
    (batchStatWord b).toNat = batchStateCode b.state + 8 * b.staging.length +
      256 * (if (match b.boundary with | some (.entry _) => true | some .now => false | none => false) then 1 else 0) +
      512 * b.failing + 8192 * batchReasonCode b.reason :=
  (((((holdsBelow_fieldWord (len := 3) (batchStateCode_lt b.state)).field (p := 3) 5 (by omega)).bit (p := 8)
    _).field (p := 9) 4 (by omega)).field (p := 13) 3 (batchReasonCode_lt b.reason)).value

theorem toNat_batchResWord (b : BatchUnit) : (batchResWord b).toNat =
    resultCode (selectedResult b).outcome + 16 * ((selectedResult b).disposition.map dispositionCode).getD 0 := by
  have disposition : ((selectedResult b).disposition.map dispositionCode).getD 0 < 2 ^ 2 := by
    rcases (selectedResult b).disposition with _ | d
    · decide
    · cases d <;> decide
  exact ((holdsBelow_fieldWord (len := 4) (resultCode_lt _)).field (p := 4) 2 disposition).value

theorem readWord_groupStat (g : Fin 4) (s : State) :
    readWord s (BitVec.ofNat 7 (0x3C + g.val)) = groupStatWord s.groups[g] := by
  fin_cases g <;> rfl

theorem readWord_param (k : Fin 8) (s : State) : readWord s (BitVec.ofNat 7 (0x0A + k.val)) = s.port.params[k] := by
  fin_cases k <;> rfl

theorem readWord_res (k : Fin 8) (s : State) : readWord s (BitVec.ofNat 7 (0x12 + k.val)) = s.port.res[k] := by
  fin_cases k <;> rfl

/-! ## Refused writes -/

theorem writeWord_unmapped {a : BitVec 7} (h : a ∈ wordsWithoutRegister) (v : Word) (s : State) :
    readWord s a = 0 ∧ writeWord a v s = refusedWrite .unmapped a s := by
  rw [readWord, writeWord, (registerAt_unmapped a).2 h]
  exact ⟨rfl, rfl⟩

theorem writeWord_readOnly {a : BitVec 7} (h : a ∈ readOnlyWords) (v : Word) (s : State) :
    writeWord a v s = refusedWrite .readOnly a s := by
  simp only [readOnlyWords, List.mem_cons, List.not_mem_nil, or_false] at h
  rcases h with h | h | h | h | h | h | h | h | h | h | h | h | h | h | h | h | h | h | h | h | h | h | h | h | h | h |
    h | h | h | h | h | h <;> subst h <;> rfl

theorem writeRowSel_eq (v : Word) (s : State) : writeRowSel v s =
    if v.toNat ≤ 15 then { s with reactions := { s.reactions with sel := Fin.ofNat 16 v.toNat } }
    else refusedWrite .range 0x60 s := by
  unfold writeRowSel
  split
  · rename_i small
    have sel : (⟨v.toNat, small⟩ : Fin 16) = Fin.ofNat 16 v.toNat := Fin.ext (Nat.mod_eq_of_lt small).symm
    rw [if_pos (Nat.le_of_lt_succ small), sel]
    rfl
  · rw [if_neg (by omega)]
    rfl

theorem writeBatchSel_eq (v : Word) (s : State) : writeBatchSel v s =
    if v.toNat ≤ 15 then { s with batch := { s.batch with sel := Fin.ofNat 16 v.toNat } }
    else refusedWrite .range 0x71 s := by
  unfold writeBatchSel
  split
  · rename_i small
    have sel : (⟨v.toNat, small⟩ : Fin 16) = Fin.ofNat 16 v.toNat := Fin.ext (Nat.mod_eq_of_lt small).symm
    rw [if_pos (Nat.le_of_lt_succ small), sel]
    rfl
  · rw [if_neg (by omega)]
    rfl

/-- Settles O4: the map both ways, and each register by the fields of its word. -/
theorem registerMapReadsAndRefusals : Obligations.RegisterMapReadsAndRefusals := by
  refine ⟨registerAddress_registerAt, registerAt_unmapped, readWord_reset, fun s v => ⟨rfl, ?results, rfl, ?free,
    ?pending, fun k => ⟨readWord_param k s, readWord_res k s⟩, ?reject, ?counters,
    fun a h => ⟨(writeWord_unmapped h v s).1, congrArg Host.Outcome.next (writeWord_unmapped h v s).2⟩,
    fun a h => congrArg Host.Outcome.next (writeWord_readOnly h v s), ?reserve, ?poolLow, ?rowSel, ?batchSel, ?groups,
    ?batch, ?noResult, ?pins, ?lines, ?levels, ?levelsSmall⟩⟩
  case results =>
    intro code
    have isCode : code = resultCode := funext fun r => by cases r <;> rfl
    refine ⟨?_, fun r chosen => ?_⟩
    · have small := resultCode_lt s.port.result
      exact (toNat_numWord (by omega)).trans (congrFun isCode _).symm
    · have selected : selectedResult s.batch = r := by rw [selectedResult, chosen, Option.getD_some]
      refine ⟨?_, ?_⟩
      · refine (toNat_batchResWord s.batch).trans ?_
        rw [selected, isCode]
        rcases r.disposition with _ | d
        · rfl
        · cases d <;> rfl
      · change ((selectedResult s.batch).handle.map handleWord).getD 0 = _
        rw [selected]
        cases r.handle <;> rfl
  case free => exact fun small => toNat_numWord (small.trans_lt (by decide))
  case pending => exact fun small => toNat_numWord (small.trans_lt (by decide))
  case reject =>
    change (rejectWord s.irq.reject).toNat = _
    rcases s.irq.reject with _ | x
    · rfl
    · refine (toNat_rejectWord x).trans ?_
      obtain ⟨reason, address⟩ := x
      cases reason <;> rfl
  case counters =>
    intro inv
    have captures := inv.captures.trans_lt (by decide : _ < 256)
    have captureLost := inv.captureLost.trans_lt (by decide : _ < 256)
    have reports := inv.reports.trans_lt (by decide : _ < 256)
    have reportLost := inv.reportLost.trans_lt (by decide : _ < 256)
    have fifo := inv.fifo.trans_lt (by decide : _ < 256)
    have reactionLost := inv.reactionLost.trans_lt (by decide : _ < 256)
    exact ⟨toNat_numWord_or_fieldWord captures captureLost, toNat_numWord_or_fieldWord reports reportLost,
      toNat_numWord_or_fieldWord fifo reactionLost, toNat_numWord (inv.reserve.trans_lt (by decide)),
      toNat_numWord (inv.poolLow.trans_lt (by decide)), toNat_numWord (inv.filterInt.2.trans_lt (by decide)),
      toNat_numWord (inv.captureThreshold.2.trans_lt (by decide)),
      toNat_numWord (inv.reportThreshold.2.trans_lt (by decide)),
      toNat_numWord (s.reactions.sel.isLt.trans (by decide)), toNat_numWord (s.batch.sel.isLt.trans (by decide))⟩
  case reserve => rfl
  case poolLow => rfl
  case rowSel => exact congrArg Host.Outcome.next (writeRowSel_eq v s)
  case batchSel => exact congrArg Host.Outcome.next (writeBatchSel_eq v s)
  case groups =>
    intro g x
    dsimp only
    rw [readWord_groupStat]
    refine ⟨fun view => (toNat_groupStatWord_zero x view).trans ?_, fun view small => ?_, fun view => ?_, fun view => ?_⟩
    · cases x.state <;> rcases x.firstCause with _ | _ <;> rfl
    · rw [groupStatWord, show s.groups[g].view = 1 from view]
      exact toNat_numWord (small.trans_lt (by decide))
    · rw [groupStatWord, show s.groups[g].view = 2 from view]
      exact loHalf_toNat _
    · rw [groupStatWord, show s.groups[g].view = 3 from view]
      exact hiHalf_toNat _
  case batch =>
    intro staged failing
    refine (toNat_batchStatWord s.batch staged failing).trans ?_
    have state : batchStateCode s.batch.state = (match s.batch.state with
        | .empty => 0 | .opened => 1 | .armed => 2 | .applied => 3 | .failed => 4 | .abandoned => 5) := by
      cases s.batch.state <;> rfl
    have boundary : (if (match s.batch.boundary with | some (.entry _) => true | some .now => false | none => false)
        then 1 else 0) = (match s.batch.boundary with | some (.entry _) => 1 | some .now => 0 | none => 0) := by
      rcases s.batch.boundary with _ | b
      · rfl
      · cases b <;> rfl
    have reason : batchReasonCode s.batch.reason = (match s.batch.reason with
        | none => 0 | some .stale => 1 | some .notPending => 2 | some .wrongState => 3 | some .late => 4
        | some .noSlot => 5 | some .reserve => 6 | some .boundaryGone => 7) := by
      rcases s.batch.reason with _ | r
      · rfl
      · cases r <;> rfl
    exact congrArg₂ (fun x r => x + 512 * s.batch.failing + 8192 * r)
      (congrArg₂ (fun x b => x + 8 * s.batch.staging.length + 256 * b) state boundary) reason
  case noResult =>
    intro nothing
    have selected : selectedResult s.batch = noResult := by rw [selectedResult, nothing, Option.getD_none]
    refine ⟨?_, ?_⟩
    · change batchResWord s.batch = 0
      rw [batchResWord, selected]
      rfl
    · change ((selectedResult s.batch).handle.map handleWord).getD 0 = 0
      rw [selected]
      rfl
  case pins =>
    refine ((holdsBelow_bitWord (pinAsserted 0 s)).bit (p := 1) (pinAsserted 1 s)).value.trans ?_
    unfold pinAsserted
    change (if !s.pins.trip[0] then 1 else 0) + 2 * (if !s.pins.trip[1] then 1 else 0) = _
    cases s.pins.trip[0] <;> cases s.pins.trip[1] <;> rfl
  case lines => exact fun l => ⟨getLsbD_intended l s, by rw [getLsbD_deferred, lineDeferred, deferredOn_iff]⟩
  case levels => exact fun n => getLsbD_inLevels n s
  case levelsSmall => exact toNat_inLevels_lt s

end Sys2Proof.Machine
end

section
/-! Chapters Time and The Agenda: times on the circle (R11 to R13), source events and ticks (R1 to R3), the write of
TIME_LO (R9, R81), and the place of an entry in the list (R24). -/

-- Each lemma waits for the ones before it: elaborated side by side they hold a thread each.
set_option Elab.async false

namespace Sys2Proof.Machine

variable {s t : State} {v w : Word}

/-! ## Times on the circle -/

/-- A difference of times counts modulo 2^32 (R11). -/
theorem lead_eq (a b : Time) : lead a b = (4294967296 - b.toNat + a.toNat) % 4294967296 := BitVec.toNat_sub a b

theorem lead_lt (a b : Time) : lead a b < 4294967296 := (a - b).isLt

theorem laterThan_iff (a b : Time) : laterThan a b = true ↔ 1 ≤ lead a b ∧ lead a b ≤ 2147483647 := by
  unfold laterThan
  rw [Bool.and_eq_true, decide_eq_true_eq, decide_eq_true_eq]
  rfl

theorem isLate_iff (a now : Time) : isLate a now = true ↔ 2147483648 ≤ lead a now := decide_eq_true_iff

theorem isDue_iff (a now : Time) : isDue a now = true ↔ lead a now = 0 := decide_eq_true_iff

theorem lead_eq_zero (a b : Time) : lead a b = 0 ↔ a = b := by
  have := a.isLt
  have := b.isLt
  rw [lead_eq]
  refine ⟨fun h => BitVec.eq_of_toNat_eq ?_, ?_⟩
  · omega
  · rintro rfl
    omega

/-- The leads of two times from each other make the whole circle, or both are 0 (R11, R13). -/
theorem lead_swap (a b : Time) : lead a b = 0 ∧ lead b a = 0 ∨ lead a b + lead b a = 4294967296 := by
  have := a.isLt
  have := b.isLt
  rw [lead_eq, lead_eq]
  omega

/-- A lead falls by the ticks that pass, until the time is due (R11). -/
theorem lead_add_ticks (a now : Time) {n : Nat} (small : n ≤ lead a now) :
    lead a (now + ticks n) + n = lead a now := by
  have := a.isLt
  have := now.isLt
  have lt := lead_lt a now
  rw [lead_eq] at lt small
  rw [lead_eq, lead_eq, BitVec.toNat_add, ticks, BitVec.toNat_ofNat]
  omega

/-- Within one span "later than" is the order of leads from its first moment (R12, log 27). -/
theorem laterThan_iff_lead {base a b : Time} (ha : lead a base ≤ 2147483647) (hb : lead b base ≤ 2147483647) :
    laterThan a b = true ↔ lead b base < lead a base := by
  have := a.isLt
  have := b.isLt
  have := base.isLt
  rw [lead_eq] at ha hb
  rw [laterThan_iff, lead_eq, lead_eq, lead_eq]
  omega

theorem laterThan_asymm {a b : Time} (h : laterThan a b = true) : laterThan b a = false := by
  rw [Bool.eq_false_iff, Ne, laterThan_iff]
  rw [laterThan_iff] at h
  have := lead_swap a b
  omega

/-- Settles O13: each case by the lead, and the leads of two times from each other make the circle. -/
theorem timesAreJudgedByLead : Obligations.TimesAreJudgedByLead := by
  refine ⟨fun a b => ?cases, ⟨0, 3221225472, 2147483648, by decide⟩, fun base a b c span => ?span, fun x now => ?one,
    fun x now n at_ positive small => ?two⟩
  case cases =>
    intro half
    have isHalf : half ↔ lead a b = 2147483648 := Iff.rfl
    have circle := lead_swap a b
    have inside := lead_lt a b
    clear_value half
    simp only [← Bool.not_eq_true, laterThan_iff, isHalf, ← lead_eq_zero]
    omega
  case span =>
    have ha : lead a base ≤ 2147483647 := span a (by simp)
    have hb : lead b base ≤ 2147483647 := span b (by simp)
    have hc : lead c base ≤ 2147483647 := span c (by simp)
    refine ⟨laterThan_iff_lead ha hb, ?_⟩
    rw [laterThan_iff_lead ha hb, laterThan_iff_lead hb hc, laterThan_iff_lead ha hc]
    omega
  case one =>
    refine ⟨(isDue_iff x now).trans (lead_eq_zero x now), isLate_iff x now, lead_lt x now, fun ahead => ?_, fun late => ?_⟩
    · exact lead_add_ticks x now (n := 1) (Nat.one_le_iff_ne_zero.2 ahead)
    · rw [isLate_iff] at late
      have circle := lead_swap x now
      change lead now x + lead x now = 4294967296
      omega
  case two =>
    have due := lead_add_ticks x now at_.ge
    refine ⟨(isDue_iff _ _).2 (by omega), (isLate_iff _ _).2 ?_⟩
    have zero : x = now + ticks n := (lead_eq_zero _ _).1 (by omega)
    have next : lead x (now + ticks (n + 1)) = 4294967295 := by
      have := now.isLt
      rw [zero, lead_eq, BitVec.toNat_add, BitVec.toNat_add, ticks, ticks, BitVec.toNat_ofNat, BitVec.toNat_ofNat]
      omega
    omega

/-! ## Source events (R1 to R3) -/

/-- A source event that the timebase does not count changes nothing (R1). -/
theorem countSourceEvent_idle {src : TickSource} (idle : s.timebase.running = false ∨ src ≠ s.timebase.source) :
    countSourceEvent src s = s := by
  unfold countSourceEvent
  rw [if_neg]
  obtain stopped | other := idle
  · simp [stopped]
  · simp [Ne.symm other]

theorem tickDue_iff (x : Timebase) : tickDue x = true ↔ x.prescaleField.toNat ≤ x.phase := by
  rw [tickDue, prescaleOf, decide_eq_true_eq, Nat.add_le_add_iff_right]

/-- A counted source event before the last phase adds 1 to the phase (R2). -/
theorem countSourceEvent_phase (running : s.timebase.running = true)
    (early : s.timebase.phase < s.timebase.prescaleField.toNat) :
    countSourceEvent s.timebase.source s = withTimebase { s.timebase with phase := s.timebase.phase + 1 } s := by
  have notDue : tickDue s.timebase = false := by
    rw [Bool.eq_false_iff, Ne, tickDue_iff]
    omega
  unfold countSourceEvent
  rw [if_pos (by simp [running]), notDue]
  rfl

/-- At the last phase it is the tick (R2). -/
theorem countSourceEvent_tick (running : s.timebase.running = true)
    (last : s.timebase.phase = s.timebase.prescaleField.toNat) :
    countSourceEvent s.timebase.source s = advanceTime s := by
  unfold countSourceEvent
  rw [if_pos (by simp [running]), if_pos ((tickDue_iff _).2 last.ge)]

/-- A tick where no pair stands at its guard end is TIME one more and the phase 0 (R2, R3). -/
theorem advanceTime_of_none (noEnd : ∀ p, atGuardEnd s p = false) :
    advanceTime s = withTimebase { s.timebase with time := s.timebase.time + 1, phase := 0 } s := by
  unfold advanceTime
  rw [endReachedGuards_of_none noEnd]

/-- The first events of an interval count the phase up (R2). -/
theorem countSourceEvent_iterate (running : s.timebase.running = true) (start : s.timebase.phase = 0) (k : Nat)
    (few : k ≤ s.timebase.prescaleField.toNat) :
    (countSourceEvent s.timebase.source)^[k] s = withTimebase { s.timebase with phase := k } s := by
  induction k with
  | zero =>
    exact congrArg (fun n => withTimebase { s.timebase with phase := n } s) start
  | succ k ih =>
    rw [Function.iterate_succ_apply', ih (by omega)]
    exact countSourceEvent_phase (s := withTimebase { s.timebase with phase := k } s) running few

/-- Settles O14: a source event by its place in the interval, and the interval's events one after the other. -/
theorem sourceEventsMakeTicks : Obligations.SourceEventsMakeTicks := by
  refine ⟨fun s noEnd running => ⟨fun src other => ?_, fun early => ?_, fun last => ?_, fun start => ?_⟩,
    fun s src stopped => ?_⟩
  · exact congrArg Host.Outcome.next (countSourceEvent_idle (.inr other))
  · exact congrArg Host.Outcome.next (countSourceEvent_phase running early)
  · have none (p : Fin 8) : atGuardEnd s p = false := atGuardEnd_eq_false.2 (noEnd p)
    have due : tickDue s.timebase = true := (tickDue_iff _).2 last.ge
    have tick : exec .tick s = .next (advanceTime s) :=
      congrArg Host.Outcome.next (if_pos (by rw [running, due]; rfl))
    refine ⟨tick.trans ?_, ?_⟩
    · rw [advanceTime_of_none none]
      rfl
    · rw [tick]
      exact congrArg Host.Outcome.next (countSourceEvent_tick running last)
  · have none (p : Fin 8) : atGuardEnd s p = false := atGuardEnd_eq_false.2 (noEnd p)
    rw [Function.iterate_succ_apply', countSourceEvent_iterate running start _ le_rfl]
    refine (countSourceEvent_tick (s := withTimebase { s.timebase with phase := s.timebase.prescaleField.toNat } s)
      running rfl).trans ?_
    refine (advanceTime_of_none (s := withTimebase { s.timebase with phase := s.timebase.prescaleField.toNat } s)
      none).trans ?_
    exact congrArg (fun n => withTimebase { s.timebase with time := s.timebase.time + 1, phase := n } s) start.symm
  · exact congrArg Host.Outcome.next (countSourceEvent_idle (.inl stopped))

/-! ## The write of TIME_LO (R9, R81) -/

theorem timeWritable_iff (s : State) : timeWritable s = true ↔
    s.timebase.running = false ∧ s.arbiter.activity = none ∧ s.agenda.list = [] := by
  simp [timeWritable, pendingCount, and_assoc]

/-- Settles O18: each wait is shifted with TIME, so what remains of it stands. -/
theorem timeLowWriteKeepsGuards : Obligations.TimeLowWriteKeepsGuards := by
  intro s v takes
  refine ⟨fun refused => ?_, fun taken => ?_⟩
  · exact congrArg Host.Outcome.next (if_neg (mt (timeWritable_iff s).1 refused))
  · refine ⟨_, congrArg Host.Outcome.next (if_pos ((timeWritable_iff s).2 taken)), rfl, ?_, fun p => ?_⟩
    · exact (toNat_ofHalves v s.timebase.writeHold).trans (Nat.add_comm _ _)
    · intro x y
      have shifted : y = shiftPair (ofHalves v s.timebase.writeHold - s.timebase.time) x :=
        getElem_mapAll _ _ p.val p.isLt
      have kept (o : Option PairWait) :
          (o.map (shiftWait (ofHalves v s.timebase.writeHold - s.timebase.time))).map
            (fun w => w.endTime - ofHalves v s.timebase.writeHold) =
          o.map (fun w => w.endTime - s.timebase.time) := by
        cases o with
        | none => rfl
        | some w => exact congrArg some (shiftWait_remaining w _ _)
      have sides (o : Option PairWait) (d : Time) :
          (o.map (shiftWait d)).map PairWait.side = o.map PairWait.side := by
        cases o <;> rfl
      rw [shifted]
      exact ⟨rfl, rfl, sides _ _, kept _, sides _ _, kept _⟩

/-! ## The place of an entry (R24) -/

/-- The first entries of a list behind which no later entry stands in the way: the list, cut at the place. -/
theorem placeIn_split (e : Entry) (l : List Entry) : ∃ before after : List Entry,
    l = before ++ after ∧ placeIn e l = before ++ e :: after ∧ (∀ x ∈ after, laterThan x.due e.due = true) ∧
      (∀ x, before.getLast? = some x → laterThan x.due e.due = false) := by
  induction l with
  | nil => exact ⟨[], [], rfl, rfl, (fun _ h => nomatch h), (fun _ h => nomatch h)⟩
  | cons y ys ih =>
    unfold placeIn
    split
    · rename_i some
      obtain ⟨before, after, whole, placed, behind, last⟩ := ih
      refine ⟨y :: before, after, by rw [whole, List.cons_append], by rw [placed, List.cons_append], behind, ?_⟩
      cases before with
      | nil =>
        intro x h
        obtain rfl : y = x := by simpa using h
        rw [List.nil_append] at whole
        subst whole
        obtain here | there := by simpa using some
        · exact here
        · obtain ⟨z, mem, early⟩ := there
          exact absurd (behind z mem) (by simp [early])
      | cons z zs =>
        intro x h
        rw [List.getLast?_cons_cons] at h
        exact last x h
    · rename_i all
      refine ⟨[], y :: ys, rfl, rfl, fun x mem => ?_, (fun _ h => nomatch h)⟩
      by_contra early
      exact all (List.any_eq_true.2 ⟨x, mem, by simpa using early⟩)

/-- Settles O19: the entries from the last not later one on are all later; in one span they are so by their lead
from the span's first moment. -/
theorem placementOrder : Obligations.PlacementOrder := by
  refine ⟨placeIn_split, fun base e l span ordered => ?_⟩
  have near {x : Entry} (mem : x ∈ e :: l) : lead x.due base ≤ 2147483647 := by
    refine span _ ?_
    rw [← List.map_cons (f := Entry.due)]
    exact List.mem_map_of_mem mem
  have notLater {x y : Entry} (hx : x ∈ e :: l) (hy : y ∈ e :: l) :
      laterThan x.due y.due = false ↔ lead x.due base ≤ lead y.due base := by
    rw [← Bool.not_eq_true, laterThan_iff_lead (near hx) (near hy), Nat.not_lt]
  obtain ⟨before, after, rfl, placed, behind, last⟩ := placeIn_split e l
  have inBefore {x : Entry} (h : x ∈ before) : x ∈ e :: (before ++ after) := by simp [h]
  have inAfter {x : Entry} (h : x ∈ after) : x ∈ e :: (before ++ after) := by simp [h]
  have self : e ∈ e :: (before ++ after) := List.mem_cons_self
  obtain ⟨orderedBefore, orderedAfter, across⟩ := List.pairwise_append.1 ordered
  have beforePlaced : ∀ x ∈ before, laterThan x.due e.due = false := by
    intro x mem
    obtain ⟨front, z, rfl⟩ := (List.eq_nil_or_concat before).resolve_left (List.ne_nil_of_mem mem)
    have lastEntry : lead z.due base ≤ lead e.due base :=
      (notLater (inBefore (by simp)) self).1 (last z (by simp))
    obtain inFront | rfl : x ∈ front ∨ x = z := by simpa using mem
    · have step : lead x.due base ≤ lead z.due base :=
        (notLater (inBefore mem) (inBefore (by simp))).1
          ((List.pairwise_append.1 (by simpa using orderedBefore)).2.2 x inFront z (by simp))
      exact (notLater (inBefore mem) self).2 (step.trans lastEntry)
    · exact last x (by simp)
  rw [placed]
  refine List.pairwise_append.2 ⟨orderedBefore, List.pairwise_cons.2 ⟨fun x mem => laterThan_asymm (behind x mem),
    orderedAfter⟩, fun x mem y memY => ?_⟩
  obtain rfl | inside := List.mem_cons.1 memY
  · exact beforePlaced x mem
  · exact across x mem y inside

end Sys2Proof.Machine
end

section
/-! Chapter Claims and Service Order: which claim is granted (R52, R54, R57, R176), and the parts of a service (R53,
log 2). A service row is known by its claim and by which services of that claim it stands for; the latter asks the
record that the service serves and the command word, and neither changes while the service runs. -/

-- Each lemma waits for the ones before it: elaborated side by side they hold a thread each.
set_option Elab.async false

namespace Sys2Proof.Machine

variable {s t : State} {v : Service}

/-! ## The claim granted -/

theorem find_first_of_four : ∀ (p : Fin 4 → Bool) (g : Fin 4),
    (List.finRange 4).find? p = some g ↔ p g = true ∧ ∀ j < g, p j = false := by decide

theorem firstPurge_eq_some {g : Fin 4} :
    firstPurge s = some g ↔ s.arbiter.purge[g] = true ∧ ∀ j : Fin 4, j < g → s.arbiter.purge[j] = false :=
  find_first_of_four (fun g => s.arbiter.purge[g]) g

theorem firstPurge_eq_none : firstPurge s = none ↔ ∀ g : Fin 4, s.arbiter.purge[g] = false := by
  simp [firstPurge, List.find?_eq_none]

/-- The head of the agenda is due or late (R26, R54). -/
theorem expiryClaim_iff : expiryClaim s = true ↔ ∃ e rest, s.agenda.list = e :: rest ∧
    (e.due = s.timebase.time ∨ 2147483648 ≤ lead e.due s.timebase.time) := by
  unfold expiryClaim
  split
  · simp_all
  · rename_i e rest list
    rw [list, Bool.or_eq_true, isDue_iff, isLate_iff, lead_eq_zero]
    exact ⟨fun h => ⟨e, rest, rfl, h⟩, by rintro ⟨_, _, same, h⟩; cases same; exact h⟩

/-- The claims by rank: the first of these cases that holds (R52). -/
theorem nextClaim_cases (s : State) :
    (¬ (s.arbiter.activity = none ∧ s.port.held = none) ∧ nextClaim s = none) ∨
    ((s.arbiter.activity = none ∧ s.port.held = none) ∧
      ((expiryClaim s = true ∧ nextClaim s = some .expiry) ∨
      (expiryClaim s = false ∧
        ((∃ g, firstPurge s = some g ∧ nextClaim s = some (.purge g)) ∨
        (firstPurge s = none ∧
          ((s.arbiter.apply = true ∧ nextClaim s = some .apply) ∨
          (s.arbiter.apply = false ∧
            ((s.reactions.fifo ≠ [] ∧ nextClaim s = some .reaction) ∨
            (s.reactions.fifo = [] ∧
              ((s.arbiter.host = true ∧ nextClaim s = some .host) ∨
              (s.arbiter.host = false ∧ nextClaim s = none))))))))))) := by
  unfold nextClaim
  split
  · rename_i busy
    refine .inl ⟨fun ⟨idle, free⟩ => ?_, rfl⟩
    simp [idle, free] at busy
  rename_i idle
  refine .inr ⟨by simpa using idle, ?_⟩
  split
  · exact .inl ⟨‹_›, rfl⟩
  refine .inr ⟨eq_false_of_ne_true ‹_›, ?_⟩
  split
  · exact .inl ⟨_, ‹_›, rfl⟩
  refine .inr ⟨‹_›, ?_⟩
  split
  · exact .inl ⟨‹_›, rfl⟩
  refine .inr ⟨eq_false_of_ne_true ‹_›, ?_⟩
  split
  · rename_i waits
    exact .inl ⟨by simpa using waits, rfl⟩
  rename_i empty
  refine .inr ⟨by simpa using empty, ?_⟩
  split
  · exact .inl ⟨‹_›, rfl⟩
  · exact .inr ⟨eq_false_of_ne_true ‹_›, rfl⟩

/-- Settles O31: the ranks in order, each claim's conditions being those of its case. -/
theorem grantsFollowRank : Obligations.GrantsFollowRank := by
  intro s ready headDue noPurge
  have head : headDue ↔ expiryClaim s = true := expiryClaim_iff.symm
  have purges : noPurge ↔ firstPurge s = none := firstPurge_eq_none.symm
  have first (g : Fin 4) : firstPurge s = some g ↔
      s.arbiter.purge[g] = true ∧ ∀ j : Fin 4, j < g → s.arbiter.purge[j] = false := firstPurge_eq_some
  simp only [← first, head, purges]
  obtain ⟨busy, next⟩ | ⟨idle, ⟨due, next⟩ | ⟨notDue, ⟨g, purge, next⟩ | ⟨noClaim, ⟨apply, next⟩ | ⟨notApply,
    ⟨fifo, next⟩ | ⟨empty, ⟨host, next⟩ | ⟨notHost, next⟩⟩⟩⟩⟩⟩ := nextClaim_cases s
  · simp [ready, next, busy]
  · simp [ready, next, idle, due]
  · simp [ready, next, idle, notDue, purge]
  · simp [ready, next, idle, notDue, noClaim, apply]
  · simp [ready, next, idle, notDue, noClaim, notApply, fifo]
  · simp [ready, next, idle, notDue, noClaim, notApply, empty, host]
  · simp [ready, next, idle, notDue, noClaim, notApply, empty, notHost]

/-! ## The service rows (log 2) -/

/-- The row stands for the services of this claim that `serves` names. -/
structure StandsFor (row : ServicePart → Instr) (c : Claim) (serves : Service → State → Bool) : Prop where
  runs : ∀ part s, exec (row part) s = .next (serviceRow part c serves s)
  asks : ∀ {v v' : Service} {s s' : State}, v.record = v'.record → s.port.cmd = s'.port.cmd →
    serves v s = serves v' s'

theorem standsFor_of_mem {row : ServicePart → Instr} (h : row ∈ serviceRows) :
    ∃ c serves, StandsFor row c serves := by
  have any {row : ServicePart → Instr} {c : Claim}
      (runs : ∀ part s, exec (row part) s = .next (serviceRow part c anyService s)) :
      ∃ c serves, StandsFor row c serves := ⟨c, anyService, runs, fun _ _ => rfl⟩
  have command {row : ServicePart → Instr} {c : Claim} {code : Word}
      (runs : ∀ part s, exec (row part) s = .next (serviceRow part c (servesCommand code) s)) :
      ∃ c serves, StandsFor row c serves :=
    ⟨c, servesCommand code, runs, fun _ cmd => by simp only [servesCommand, cmd]⟩
  simp only [serviceRows, List.mem_cons, List.not_mem_nil, or_false] at h
  obtain rfl | rfl | rfl | rfl | rfl | rfl | rfl | rfl | rfl | rfl | rfl | rfl | rfl | rfl | rfl := h
  · exact any fun _ _ => rfl
  · exact command fun _ _ => rfl
  · exact command fun _ _ => rfl
  · exact command fun _ _ => rfl
  · exact command fun _ _ => rfl
  · exact command fun _ _ => rfl
  · exact command fun _ _ => rfl
  · exact command fun _ _ => rfl
  · exact any fun _ _ => rfl
  · exact any fun _ _ => rfl
  · exact any fun _ _ => rfl
  · exact any fun _ _ => rfl
  · exact ⟨.reaction, servesSchedule, fun _ _ => rfl, fun record _ => by simp only [servesSchedule, record]⟩
  · exact ⟨.reaction, servesCancelTag, fun _ _ => rfl, fun record _ => by simp only [servesCancelTag, record]⟩
  · exact any fun _ _ => rfl

theorem granted_activity (c : Claim) (s : State) : (granted c s).arbiter.activity = some (serviceFor c s) := rfl

/-- No task changes the command word (R172). -/
theorem runTask_cmd (k : Task) (s : State) : (runTask k s).1.port.cmd = s.port.cmd := by
  cases k with
  | complete code words => rfl
  | _ => exact congrArg CommandPort.cmd (runTask_port (fun _ _ e => by cases e) s)

theorem advance_cmd (v : Service) (s : State) : (advance v s).port.cmd = s.port.cmd := by
  obtain ⟨-, e⟩ | ⟨k, ks, -, -, e⟩ | ⟨k, ks, -, -, e⟩ := advance_cases v s <;> rw [e]
  · rfl
  · exact runTask_cmd k s
  · exact runTask_cmd k s

/-- A service that goes on is the same service: its claim and its record stand. -/
theorem advance_service {v u : Service} (h : (advance v s).arbiter.activity = some u) :
    u.claim = v.claim ∧ u.record = v.record := by
  obtain ⟨-, e⟩ | ⟨k, ks, -, -, e⟩ | ⟨k, ks, -, -, e⟩ := advance_cases v s <;> rw [e] at h <;> cases h
  exact ⟨rfl, rfl⟩

theorem underWayStep_of_serves {c : Claim} {serves : Service → State → Bool} (go : Service → State → State)
    (hv : s.arbiter.activity = some v) (ok : v.claim = c ∧ serves v s = true) :
    underWayStep c serves go s = go v s := by
  simp only [underWayStep, hv, if_pos ok]

theorem underWayStep_of_not {c : Claim} {serves : Service → State → Bool} (go : Service → State → State)
    (other : ∀ v, s.arbiter.activity = some v → ¬ (v.claim = c ∧ serves v s = true)) :
    underWayStep c serves go s = s := by
  unfold underWayStep
  split
  · rw [if_neg (other _ ‹_›)]
  · rfl

theorem grantable_iff {c : Claim} {serves : Service → State → Bool} :
    grantable c serves s = true ↔ nextClaim s = some c ∧ serves (serviceFor c s) s = true := by
  simp [grantable]

/-- Where a row stands for the service under way, the moves of the service are that row's (log 2). -/
theorem StandsFor.iterate {row : ServicePart → Instr} {c : Claim} {serves : Service → State → Bool}
    (stands : StandsFor row c serves) (moves : Relation.ReflTransGen Advances s t)
    (ok : ∀ v, s.arbiter.activity = some v → v.claim = c ∧ serves v s = true) :
    ∃ n : Nat, (afterCommand (row .advance))^[n] s = t := by
  induction moves using Relation.ReflTransGen.head_induction_on with
  | refl => exact ⟨0, rfl⟩
  | @head x y first _ ih =>
    obtain ⟨v, hv, rfl⟩ := first
    obtain ⟨claim, served⟩ := ok v hv
    have step : afterCommand (row .advance) x = advance v x := by
      unfold afterCommand
      rw [stands.runs]
      exact underWayStep_of_serves advance hv ⟨claim, served⟩
    obtain ⟨n, rest⟩ := ih fun u hu => by
      obtain ⟨sameClaim, record⟩ := advance_service hu
      exact ⟨sameClaim.trans claim, (stands.asks record (advance_cmd v x)).trans served⟩
    exact ⟨n + 1, by rw [Function.iterate_succ_apply, step, rest]⟩

/-- The grant and the finish of a service with nothing between are the whole service, and the grant leaves the
agenda (R52, R53). -/
theorem StandsFor.grant_then_finish {row : ServicePart → Instr} {c : Claim} {serves : Service → State → Bool}
    (stands : StandsFor row c serves) (idle : s.arbiter.activity = none) (h : exec (row .grant) s = .next t) :
    exec (row .finish) t = exec (row .whole) s ∧ t.agenda = s.agenda ∧
      (t = s ∨ ∃ v, t.arbiter.activity = some v ∧ nextClaim s = some v.claim ∧
        v.taken = s.timebase.time ∧ v.reserve = s.agenda.reserve) := by
  rw [stands.runs] at h
  obtain rfl := Host.Outcome.next.inj h
  rw [stands.runs, stands.runs]
  simp only [serviceRow]
  by_cases may : grantable c serves s = true
  · rw [if_pos may, if_pos may]
    obtain ⟨next, served⟩ := grantable_iff.1 may
    have cmd : (granted c s).port.cmd = s.port.cmd := congrArg CommandPort.cmd (granted_port c s)
    refine ⟨?_, granted_agenda c s, .inr ⟨serviceFor c s, rfl, next, rfl, rfl⟩⟩
    exact congrArg Host.Outcome.next
      (underWayStep_of_serves (c := c) finish (granted_activity c s) ⟨rfl, (stands.asks rfl cmd).trans served⟩)
  · rw [if_neg may, if_neg may, underWayStep_of_not finish fun v hv => nomatch idle.symm.trans hv]
    exact ⟨rfl, rfl, .inl rfl⟩

/-- While a service is under way no other begins (R52). -/
theorem StandsFor.busy {row : ServicePart → Instr} {c : Claim} {serves : Service → State → Bool}
    (stands : StandsFor row c serves) (busy : s.arbiter.activity ≠ none) :
    exec (row .grant) s = .next s ∧ exec (row .whole) s = .next s := by
  have not : ¬ grantable c serves s = true := fun may => busy (nextClaim_idle (grantable_iff.1 may).1).1
  rw [stands.runs, stands.runs]
  simp only [serviceRow, if_neg not, and_self]

/-- The rest of a service is its next moves one after the other (R53). -/
theorem StandsFor.finish_moves {row : ServicePart → Instr} {c : Claim} {serves : Service → State → Bool}
    (stands : StandsFor row c serves) (h : exec (row .finish) s = .next t) :
    ∃ n : Nat, (afterCommand (row .advance))^[n] s = t := by
  rw [stands.runs] at h
  obtain rfl := Host.Outcome.next.inj h
  by_cases ok : ∃ v, s.arbiter.activity = some v ∧ v.claim = c ∧ serves v s = true
  · obtain ⟨v, hv, served⟩ := ok
    refine stands.iterate ?_ fun u hu => by
      obtain rfl := Option.some.inj (hv.symm.trans hu)
      exact served
    rw [show serviceRow .finish c serves s = finish v s from underWayStep_of_serves finish hv served]
    exact finish_advances hv
  · refine ⟨0, (underWayStep_of_not finish fun v hv served => ok ⟨v, hv, served⟩).symm⟩

/-- The next move of a service, where its row stands for it, is the service's next task (R53). -/
theorem StandsFor.advance_eq {row : ServicePart → Instr} {c : Claim} {serves : Service → State → Bool}
    (stands : StandsFor row c serves) (hv : s.arbiter.activity = some v) (h : exec (row .finish) s ≠ .next s)
    {k : Task} {ks : List Task} (todo : v.todo = k :: ks) (more : ks ≠ []) :
    exec (row .advance) s = .next (serving { v with todo := (runTask k s).2 ++ ks } (runTask k s).1) := by
  have served : v.claim = c ∧ serves v s = true := by
    by_contra other
    refine h ((stands.runs .finish s).trans (congrArg Host.Outcome.next ?_))
    refine underWayStep_of_not finish fun u hu => ?_
    obtain rfl := Option.some.inj (hv.symm.trans hu)
    exact other
  rw [stands.runs]
  refine congrArg Host.Outcome.next ((underWayStep_of_serves advance hv served).trans ?_)
  exact advance_of_more todo (List.append_ne_nil_of_right_ne_nil _ more)

theorem request_eq_withLines (l : Fin 16) (r : Request) (s : State) :
    (request l r s).2 = withLines (request l r s).2.lines s := (request_keeps l r s).eq

/-- The kind of the record of an act, by the answer and the group's state (R27). -/
theorem actKind_eq (a : Answer) (g : GroupState) (applied : ReportKind) : actKind a g applied =
    (match a with
      | .deferred => .deferred
      | .blocked => .blocked
      | .applied => if g = .tripped then .suppressed else applied) := by
  cases a with
  | deferred => rfl
  | blocked => rfl
  | applied => cases g <;> rfl

/-- Settles O32: each row stands for services of one claim, whose moves are the tasks of the service. -/
theorem grantThenFinishIsTheWholeService : Obligations.GrantThenFinishIsTheWholeService := by
  intro row mem
  obtain ⟨c, serves, stands⟩ := standsFor_of_mem mem
  refine ⟨fun s t => ⟨fun idle h => stands.grant_then_finish idle h, stands.busy⟩, fun s t => stands.finish_moves,
    fun s v ks hv more h => ⟨fun l r x todo => ?_, fun r todo room => ?_, fun r todo full => ?_⟩⟩
  · rw [stands.advance_eq hv h todo more]
    refine congrArg Host.Outcome.next ?_
    have groups : (request l r s).2.groups = s.groups := (request_keeps l r s).groups (by decide)
    simp only [runTask, groups, actKind_eq]
    exact congrArg (serving _) (request_eq_withLines l r s)
  · rw [stands.advance_eq hv h todo more]
    obtain ⟨-, e⟩ | ⟨full, -⟩ := offerReport_cases r s
    · simp only [runTask, e]
      rfl
    · omega
  · rw [stands.advance_eq hv h todo more]
    obtain ⟨room, -⟩ | ⟨-, e⟩ := offerReport_cases r s
    · omega
    · simp only [runTask, e]
      rfl

end Sys2Proof.Machine
end

section
/-! Chapter Groups and Trips: trip requests (R90 to R93, R104), the command TRIP (R100) and the trip pins (R89). A
request is stated by what each group, flag, claim and pair holds after it (`TripRequests`); requests with one cause
put one behind the other name the groups that either names. -/

-- Each lemma waits for the ones before it: elaborated side by side they hold a thread each.
set_option Elab.async false

namespace Sys2Proof.Machine

variable {s t u : State} {c : Cause} {g : Fin 4} {named other : Fin 4 → Bool}

/-- What a vector holds after a write, at the written place and at the others. -/
theorem getElem_set_fin {α : Type} {n : Nat} (x : Vector α n) (i j : Fin n) (a : α) :
    (x.set i a)[j] = if j = i then a else x[j] := by
  simp [Vector.getElem_set, Fin.ext_iff, eq_comm]

/-! ## One request -/

/-- Of the interrupt unit only the trip flags may differ (R104). -/
def onlyTripFlags (s t : State) : Prop :=
  t.irq = { s.irq with flags := { s.irq.flags with trip := t.irq.flags.trip } }

theorem onlyTripFlags.trans (h : onlyTripFlags s t) (k : onlyTripFlags t u) : onlyTripFlags s u := by
  unfold onlyTripFlags at *
  rw [k, h]

theorem groupOfPair_eq_iff (g : Fin 4) (p : Fin 8) :
    groupOfPair p = g ↔ p = firstPair g ∨ p = secondPair g := by revert g p; decide

theorem dropDeferral_pair (q p : Fin 8) (s : State) : (dropDeferral q s).lines.pairs[p] =
    if p = q then { s.lines.pairs[p] with deferral := none } else s.lines.pairs[p] := by
  refine (getElem_set_fin s.lines.pairs q p _).trans ?_
  by_cases same : p = q
  · rw [if_pos same, if_pos same, same]
  · rw [if_neg same, if_neg same]

theorem tripEntry_groups (g : Fin 4) (c : Cause) (s : State) :
    (tripEntry g c s).groups = s.groups.set g (trippedGroup s.groups[g] c s.timebase.time) := by
  unfold tripEntry
  dsimp only
  split <;> rfl

theorem tripEntry_irq (g : Fin 4) (c : Cause) (s : State) : (tripEntry g c s).irq =
    { s.irq with flags := { s.irq.flags with trip := s.irq.flags.trip.set g true } } := by
  unfold tripEntry
  dsimp only
  split <;> rfl

theorem tripEntry_arbiter (g : Fin 4) (c : Cause) (s : State) : (tripEntry g c s).arbiter =
    if s.groups[g].policy = .purge then { s.arbiter with purge := s.arbiter.purge.set g true } else s.arbiter := by
  unfold tripEntry
  dsimp only
  split
  · rw [if_pos ‹_›]
    rfl
  · rename_i hold
    rw [hold]
    rfl

theorem tripEntry_lines (g : Fin 4) (c : Cause) (s : State) : (tripEntry g c s).lines.lines = s.lines.lines ∧
    ∀ p : Fin 8, (tripEntry g c s).lines.pairs[p] =
      if groupOfPair p = g then { s.lines.pairs[p] with deferral := none } else s.lines.pairs[p] := by
  have lines : (tripEntry g c s).lines = (dropDeferral (secondPair g) (dropDeferral (firstPair g) s)).lines := by
    unfold tripEntry
    dsimp only
    split <;> rfl
  rw [lines]
  refine ⟨rfl, fun p => ?_⟩
  rw [dropDeferral_pair, dropDeferral_pair]
  simp only [groupOfPair_eq_iff]
  by_cases first : p = firstPair g
  · rw [if_pos first, if_pos (Or.inl first), ite_self]
  · rw [if_neg first]
    simp only [first, false_or]

/-- A request to no group changes nothing. -/
theorem TripRequests.refl (c : Cause) (s : State) : TripRequests (fun _ => false) c s s := by
  constructor <;> intros <;> simp

theorem TripRequests.congr (h : TripRequests named c s t) (same : ∀ g, named g = other g) :
    TripRequests other c s t := by
  rwa [show named = other from funext same] at h

theorem afterTripRequest_off {x : Group} {now : Time} (off : x.state = .off) : afterTripRequest c now x = x := by
  simp only [afterTripRequest, off]

theorem afterTripRequest_tripped {x : Group} {now : Time} (tripped : x.state = .tripped) :
    afterTripRequest c now x = { x with causes := addCause c x.causes } := by
  simp only [afterTripRequest, tripped]

theorem afterTripRequest_run {x : Group} {now : Time} (run : x.state = .run) :
    afterTripRequest c now x = trippedGroup x c now := by
  simp only [afterTripRequest, trippedGroup, run]

theorem addCause_addCause (c : Cause) (x : CauseSet) : addCause c (addCause c x) = addCause c x := by
  cases c <;> rfl

/-- A second request with the same cause does nothing more (R92). -/
theorem afterTripRequest_twice (c : Cause) (now : Time) (x : Group) :
    afterTripRequest c now (afterTripRequest c now x) = afterTripRequest c now x := by
  cases h : x.state with
  | off => rw [afterTripRequest_off h, afterTripRequest_off h]
  | tripped =>
    rw [afterTripRequest_tripped h, afterTripRequest_tripped (by exact h)]
    simp only [addCause_addCause]
  | run =>
    rw [afterTripRequest_run h, afterTripRequest_tripped rfl]
    simp only [trippedGroup, addCause_addCause]

theorem afterTripRequest_state (c : Cause) (now : Time) (x : Group) :
    (afterTripRequest c now x).state ≠ .run := by
  cases h : x.state with
  | off => rw [afterTripRequest_off h, h]; decide
  | tripped => rw [afterTripRequest_tripped h]; simp [h]
  | run => rw [afterTripRequest_run h]; simp [trippedGroup]

theorem useOf_afterTripRequest (c : Cause) (now : Time) (x : Group) (pin : Fin 2) :
    useOf (afterTripRequest c now x) pin = useOf x pin := by
  cases h : x.state with
  | off => rw [afterTripRequest_off h]
  | tripped => rw [afterTripRequest_tripped h]; rfl
  | run => rw [afterTripRequest_run h]; rfl

/-- A request to one group (R91, R92, R93). -/
theorem tripRequests_tripRequest (g : Fin 4) (c : Cause) (s : State) :
    TripRequests (fun j => decide (j = g)) c s (tripRequest g c s) := by
  have claims := tripRequest_claims g c s
  by_cases run : s.groups[g].state = .run
  · have entry : tripRequest g c s = tripEntry g c s := by simp only [tripRequest, run]
    have same (j : Fin 4) : (decide (j = g) && decide (s.groups[j].state = .run)) = decide (j = g) := by
      by_cases own : j = g
      · subst j
        simp only [run, decide_true, Bool.and_self]
      · simp only [own, decide_false, Bool.false_and]
    rw [entry] at claims ⊢
    obtain ⟨activity, apply, host⟩ := claims
    obtain ⟨levels, pairs⟩ := tripEntry_lines g c s
    refine ⟨fun j => ?_, fun j => ?_, fun j => ?_, fun p => ?_, levels, activity, apply, host, tripEntry_agenda g c s,
      tripEntry_timebase g c s, tripEntry_capture g c s, tripEntry_batch g c s, tripEntry_reports g c s⟩
    · rw [tripEntry_groups, getElem_set_fin]
      by_cases own : j = g
      · subst j
        simp only [if_true, decide_true, afterTripRequest_run run]
      · simp only [own, if_false, decide_false, Bool.false_eq_true]
    · rw [tripEntry_irq, getElem_set_fin, same]
      by_cases own : j = g <;> simp only [own, if_true, if_false, decide_true, decide_false, Bool.or_true, Bool.or_false]
    · rw [tripEntry_arbiter, same]
      by_cases own : j = g
      · subst j
        by_cases purge : s.groups[g].policy = .purge
        · simp only [purge, if_true, getElem_set_fin, decide_true, Bool.and_self, Bool.or_true]
        · simp only [purge, if_false, decide_false, Bool.and_false, Bool.or_false]
      · by_cases purge : s.groups[g].policy = .purge <;>
          simp only [own, purge, if_true, if_false, getElem_set_fin, decide_false, Bool.false_and, Bool.or_false]
    · rw [pairs, same]
      simp only [decide_eq_true_eq]
  · have answered : tripRequest g c s = withGroup g (afterTripRequest c s.timebase.time s.groups[g]) s := by
      cases state : s.groups[g].state with
      | run => exact absurd state run
      | off =>
        have same : withGroup g s.groups[g] s = s := by
          simp only [withGroup, Fin.getElem_fin, Vector.set_getElem_self]
        rw [afterTripRequest_off state, same]
        simp only [tripRequest, state]
      | tripped =>
        rw [afterTripRequest_tripped state]
        simp only [tripRequest, state]
    have nowhere (j : Fin 4) : (decide (j = g) && decide (s.groups[j].state = .run)) = false := by
      by_cases own : j = g
      · subst j
        simp only [run, decide_false, Bool.and_false]
      · simp only [own, decide_false, Bool.false_and]
    rw [answered]
    refine ⟨fun j => ?_, fun j => ?_, fun j => ?_, fun p => ?_, rfl, rfl, rfl, rfl, rfl, rfl, rfl, rfl, rfl⟩
    · refine (getElem_set_fin s.groups g j _).trans ?_
      by_cases own : j = g
      · subst j
        simp only [if_true, decide_true]
      · simp only [own, if_false, decide_false, Bool.false_eq_true]
    · rw [nowhere, Bool.or_false]
      rfl
    · rw [nowhere, Bool.false_and, Bool.or_false]
      rfl
    · rw [nowhere]
      rfl

/-- Requests with the same cause, one behind the other. -/
theorem TripRequests.trans (h : TripRequests named c s t) (k : TripRequests other c t u) :
    TripRequests (fun g => named g || other g) c s u := by
  have state (g : Fin 4) : t.groups[g].state = .run ↔ named g = false ∧ s.groups[g].state = .run := by
    rw [h.groups]
    cases named g
    · simp
    · simp [afterTripRequest_state]
  have policy (g : Fin 4) (not : named g = false) : t.groups[g].policy = s.groups[g].policy := by
    rw [h.groups, not]
    rfl
  refine ⟨fun g => ?_, fun g => ?_, fun g => ?_, fun p => ?_, k.levels.trans h.levels, k.activity.trans h.activity,
    k.apply.trans h.apply, k.host.trans h.host, k.agenda.trans h.agenda, k.timebase.trans h.timebase,
    k.capture.trans h.capture, k.batch.trans h.batch, k.reports.trans h.reports⟩
  · rw [k.groups, h.groups, h.timebase]
    cases named g <;> cases other g <;> simp [afterTripRequest_twice]
  · rw [k.flags, h.flags]
    cases n : named g <;> simp [-Fin.getElem_fin, state, n]
  · rw [k.purges, h.purges]
    cases n : named g
    · simp [-Fin.getElem_fin, state, n, policy g n]
    · simp [-Fin.getElem_fin, state, n]
  · rw [k.deferrals, h.deferrals]
    cases n : named (groupOfPair p)
    · simp [-Fin.getElem_fin, state, n]
    · simp [-Fin.getElem_fin, state, n]

/-- Requests made group by group, each where `named` says so when its turn comes. -/
theorem tripRequests_foldl {step : State → Fin 4 → State}
    (each : ∀ n t g, TripRequests n c s t → step t g = if named g then tripRequest g c t else t) (l : List (Fin 4))
    (h : TripRequests other c s t) :
    TripRequests (fun g => other g || (decide (g ∈ l) && named g)) c s (l.foldl step t) := by
  induction l generalizing t other with
  | nil => exact h.congr fun g => by simp
  | cons g l ih =>
    rw [List.foldl_cons, each _ _ _ h]
    cases n : named g
    · refine (ih h).congr fun j => ?_
      by_cases own : j = g
      · subst j
        simp [n]
      · simp [own]
    · refine (ih (h.trans (tripRequests_tripRequest g c t))).congr fun j => ?_
      by_cases own : j = g
      · subst j
        simp [n]
      · simp [own]

/-- A trip request for each group of a mask (R100, R138). -/
theorem tripRequests_tripMask (mask : Nat) (c : Cause) (s : State) :
    TripRequests (fun g => mask.testBit g.val) c s (tripMask mask c s) :=
  (tripRequests_foldl (named := fun g => mask.testBit g.val) (fun _ _ _ _ => rfl) _ (.refl c s)).congr fun g => by
    simp

/-- A trip request for each group whose use of the pin is LEVEL or EDGE (R90). -/
theorem tripRequests_pinTrip (pin : Fin 2) (s : State) :
    TripRequests (fun g => decide (useOf s.groups[g] pin ≠ .none)) (pinCause pin) s (pinTrip pin s) := by
  refine (tripRequests_foldl (named := fun g => decide (useOf s.groups[g] pin ≠ .none)) (fun n t g h => ?_) _
    (.refl _ s)).congr fun g => by simp
  have same : useOf t.groups[g] pin = useOf s.groups[g] pin := by
    rw [h.groups]
    split
    · exact useOf_afterTripRequest _ _ _ _
    · rfl
  rw [same]
  cases useOf s.groups[g] pin <;> rfl

/-! ## What the requests leave in the other units -/

theorem onlyTripFlags_tripRequest (g : Fin 4) (c : Cause) (s : State) : onlyTripFlags s (tripRequest g c s) := by
  unfold onlyTripFlags tripRequest
  dsimp only
  split
  · rw [tripEntry_irq]
  · rfl
  · rfl

theorem onlyTripFlags_tripMask (mask : Nat) (c : Cause) (s : State) : onlyTripFlags s (tripMask mask c s) := by
  refine foldl_inv (P := onlyTripFlags s) (fun t g h => ?_) _ s rfl
  split
  · exact h.trans (onlyTripFlags_tripRequest g c t)
  · exact h

theorem onlyTripFlags_pinTrip (pin : Fin 2) (s : State) : onlyTripFlags s (pinTrip pin s) := by
  refine foldl_inv (P := onlyTripFlags s) (fun t g h => ?_) _ s rfl
  split
  · exact h
  · exact h.trans (onlyTripFlags_tripRequest g _ t)
  · exact h.trans (onlyTripFlags_tripRequest g _ t)

/-! ## The trip pins (R89, R90) -/

/-- Settles O50: the row and the sample that see a fall send the pin's requests; a rise and another sample change
the pin's own record alone. -/
theorem tripPinsFallAndRise : Obligations.TripPinsFallAndRise := by
  refine ⟨fun s pin high => ?_, fun s pin => ⟨_, rfl, rfl, rfl, rfl, rfl⟩, fun s pin => ?_⟩
  · have fell : exec (.tripPinFall pin) s =
        .next (pinTrip pin (setTripSamples pin fallSeen (setTripPin pin false s))) :=
      congrArg Host.Outcome.next (if_pos (by simp [canFall, pinAsserted, high, -Fin.getElem_fin]))
    have requests := tripRequests_pinTrip pin (setTripSamples pin fallSeen (setTripPin pin false s))
    have pins := pinTrip_pins pin (setTripSamples pin fallSeen (setTripPin pin false s))
    have seen : (pinTrip pin (setTripSamples pin fallSeen (setTripPin pin false s))).pins.tripSamples[pin] =
        fallSeen := by
      rw [pins]
      exact Vector.getElem_set_self pin.isLt
    have low : (pinTrip pin (setTripSamples pin fallSeen (setTripPin pin false s))).pins.trip[pin] = false := by
      rw [pins]
      exact Vector.getElem_set_self pin.isLt
    refine ⟨_, fell, ⟨requests.1, requests.2, requests.3, requests.4, requests.5, requests.6, requests.7, requests.8,
      requests.9, requests.10, requests.11, requests.12, requests.13⟩, ?_, ?_, ?_, pinTrip_port _ _,
      pinTrip_reactions _ _, onlyTripFlags_pinTrip pin (setTripSamples pin fallSeen (setTripPin pin false s)), ?_⟩
    · rw [pins]; rfl
    · rw [pins]; rfl
    · rw [pins]; rfl
    · refine congrArg Host.Outcome.next (if_neg ?_)
      rw [canFall, pinAsserted, low, seen]
      decide
  · intro x t counted
    have sample : takeSample x (pinAsserted pin s) =
        (counted, decide (s.pins.trip[pin] = false ∧ 2 ≤ x.before ∧ x.after = 1)) := by
      simp only [counted, takeSample, pinAsserted]
      obtain level | level := Bool.eq_false_or_eq_true s.pins.trip[pin]
      · by_cases zero : x.after = 0
        · simp [level, zero, -Fin.getElem_fin]
        · simp [level, zero, -Fin.getElem_fin]
      · simp only [level, Bool.not_false, if_true, true_and, Bool.decide_and]
        rfl
    have sampled : t = if decide (s.pins.trip[pin] = false ∧ 2 ≤ x.before ∧ x.after = 1) then
        pinTrip pin (setTripSamples pin counted s) else setTripSamples pin counted s := by
      simp only [t, sampleTripPin]
      rw [show takeSample s.pins.tripSamples[pin] (pinAsserted pin s) = _ from sample]
    clear_value t counted
    subst sampled
    refine ⟨?_, fun seen => ?_, fun unseen => ?_⟩
    · split
      · exact pinTrip_pins pin (setTripSamples pin counted s)
      · rfl
    · rw [if_pos (decide_eq_true seen)]
      have requests := tripRequests_pinTrip pin (setTripSamples pin counted s)
      exact ⟨⟨requests.1, requests.2, requests.3, requests.4, requests.5, requests.6, requests.7, requests.8,
        requests.9, requests.10, requests.11, requests.12, requests.13⟩, pinTrip_port _ _, pinTrip_reactions _ _,
        onlyTripFlags_pinTrip pin (setTripSamples pin counted s)⟩
    · rw [if_neg (by simpa only [decide_eq_true_eq] using unseen)]
      rfl

end Sys2Proof.Machine
end

section
/-! Chapter Commands: the acceptance of a command (R171 to R176), and the commands answered without the arbiter:
LINE_SET, the group commands and TRIP. A taken command is judged on the state with its code in CMD and RESULT NONE
(`accepted`); an answer given at once is that of the block on the state before. -/

-- Each lemma waits for the ones before it: elaborated side by side they hold a thread each.
set_option Elab.async false

namespace Sys2Proof.Machine

variable {s t u : State} {v : Word} {l : Fin 16} {r : Request}

/-! ## A request looks at the line unit and at TIME alone (R71 to R74) -/

theorem activate_withLines (l : Fin 16) (s u : State) :
    activate l (withLines s.lines u) = ((activate l s).1, withLines (activate l s).2.lines u) := by
  by_cases active : s.lines.lines[l].active = true
  · rw [activate_of_active active, activate_of_active (s := withLines s.lines u) active]
  by_cases deferred : deferredOn s.lines.pairs[pairOf l] (sideOf l) = true
  · rw [activate_of_deferred active deferred, activate_of_deferred (s := withLines s.lines u) active deferred]
  by_cases taken : s.lines.lines[partnerOf l].active = true ∨
      deferredOn s.lines.pairs[pairOf l] (otherSide (sideOf l)) = true
  · rw [activate_of_partner_taken active deferred taken,
      activate_of_partner_taken (s := withLines s.lines u) active deferred taken]
  obtain ⟨partner, free⟩ := not_or.1 taken
  rw [activate_of_partner_free active deferred partner free,
    activate_of_partner_free (s := withLines s.lines u) active deferred partner free]
  simp only [withLines_lines]
  cases s.lines.pairs[pairOf l].running with
  | none => rfl
  | some w => by_cases partners : w.side = otherSide (sideOf l) <;> simp only [partners, if_true, if_false] <;> rfl

theorem deactivate_withLines (l : Fin 16) (time : u.timebase = s.timebase) :
    deactivate l (withLines s.lines u) = withLines (deactivate l s).lines u := by
  by_cases deferred : deferredOn s.lines.pairs[pairOf l] (sideOf l) = true
  · rw [deactivate_of_deferred deferred, deactivate_of_deferred (s := withLines s.lines u) deferred]
    rfl
  by_cases active : s.lines.lines[l].active = true
  · by_cases guard : s.lines.pairs[pairOf l].guardTicks = 0
    · rw [deactivate_of_no_guard deferred active guard,
        deactivate_of_no_guard (s := withLines s.lines u) deferred active guard]
      rfl
    · have guard := Nat.one_le_iff_ne_zero.2 guard
      rw [deactivate_of_guard deferred active guard,
        deactivate_of_guard (s := withLines s.lines u) deferred active guard]
      simp only [withLines_timebase, time]
      rfl
  · rw [deactivate_of_inactive deferred active,
      deactivate_of_inactive (s := withLines s.lines u) deferred active]

theorem request_withLines (l : Fin 16) (r : Request) (time : u.timebase = s.timebase) :
    request l r (withLines s.lines u) = ((request l r s).1, withLines (request l r s).2.lines u) := by
  unfold request
  simp only [withLines_lines, activate_withLines, deactivate_withLines l time]
  split
  · split
    · rfl
    · rfl
    · split <;> rfl
  · split <;> rfl

/-- The same lines at the same TIME answer a request alike. -/
theorem request_congr (lines : t.lines = s.lines) (time : t.timebase = s.timebase) :
    request l r t = ((request l r s).1, withLines (request l r s).2.lines t) := by
  have same : withLines s.lines t = t := by rw [← lines]; rfl
  rw [← request_withLines l r time, same]

/-- With the interlock off a request sets or flips its line alone (R71). -/
theorem request_of_off (off : s.lines.pairs[pairOf l].interlock = false) (r : Request) :
    request l r s = (.applied, setActive l
      (match r with | .active => true | .inactive => false | .toggle => !s.lines.lines[l].active) s) := by
  unfold request
  simp only [off]
  cases r <;> rfl

/-! ## Acceptance (R171 to R175) -/

/-- The state a taken command is judged on: CMD holds its code, RESULT is NONE (R173). -/
def accepted (v : Word) (s : State) : State := withPort { s.port with cmd := v, result := .none } s

theorem writeCmd_waiting (waiting : s.port.waiting = true) (v : Word) (judge : State → State) :
    writeCmd v judge s = refuse .cmd .cmdWaiting s := if_pos waiting

theorem writeCmd_ready (ready : s.port.waiting = false) (v : Word) (judge : State → State) :
    writeCmd v judge s = judge (accepted v s) := if_neg (ne_true_of_eq_false ready)

theorem writeRes_nil (res : Vector Word 8) : writeRes [] res = res := by
  ext k h
  simp [writeRes]

/-- An answer with no result word given in the event of the acceptance (R173, R175). -/
theorem complete_accepted (code : ResultCode) (v : Word) (s : State) :
    complete code [] (accepted v s) = answeredAtOnce v code s := by
  exact congrArg (fun res => { answeredAtOnce v code s with port :=
    { s.port with cmd := v, waiting := false, result := code, held := none, res := res } }) (writeRes_nil s.port.res)

theorem badParam_accepted (v : Word) (s : State) : badParam (accepted v s) = answeredAtOnce v .badParam s :=
  complete_accepted .badParam v s

theorem judgeInsert_of_ok (ok : insertParamsOk s.port.params = true) : judgeInsert s = raiseHost s := by
  obtain ⟨i, named⟩ := Option.isSome_iff_exists.1 ((insertionOf_isSome s.port.params).trans ok)
  simp only [judgeInsert, named]

theorem insertionOf_of_not_ok {p : Vector Word 8} (bad : insertParamsOk p = false) : insertionOf p = none :=
  Option.isNone_iff_eq_none.1 (Option.isSome_eq_false_iff.1 ((insertionOf_isSome p).trans bad))

theorem judgeInsert_of_not_ok (bad : insertParamsOk s.port.params = false) : judgeInsert s = badParam s := by
  simp only [judgeInsert, insertionOf_of_not_ok bad]

/-- Settles O29: each command is judged by its own check and handed over or completed. -/
theorem agendaCommandsAccepted : Obligations.AgendaCommandsAccepted := by
  intro s ready _
  have taken (v : Word) (judge : State → State) := congrArg Host.Outcome.next (writeCmd_ready ready v judge)
    (α := State) (β := Result)
  refine ⟨fun ok => ?_, fun bad => ?_, taken _ _, taken _ _, taken _ _, fun small => ?_, fun large => ?_, taken _ _,
    taken _ _⟩
  · exact (taken _ _).trans (congrArg _ (judgeInsert_of_ok (s := accepted 0x01 s) ok))
  · exact (taken _ _).trans (congrArg _ ((judgeInsert_of_not_ok (s := accepted 0x01 s) bad).trans
      (badParam_accepted _ s)))
  · exact (taken _ _).trans (congrArg _ (if_pos small))
  · exact (taken _ _).trans (congrArg _ ((if_neg (Nat.not_le.2 large)).trans (badParam_accepted _ s)))

/-- A value that is no command code is BAD_COMMAND (R173, R200). -/
theorem judge_of_not_code (bad : v ∉ commandCodes) : judge v = complete .badCommand [] := by
  have named (h : v.toNat ∈ commandCodes.map BitVec.toNat) : False := by
    obtain ⟨w, mem, same⟩ := List.mem_map.1 h
    exact bad (BitVec.eq_of_toNat_eq same ▸ mem)
  unfold judge
  split
  all_goals first | rfl | (rename_i code; exact (named (by rw [code]; decide)).elim)

/-- Settles O30: the port's WAITING decides. -/
theorem portRefusesWhileWaiting : Obligations.PortRefusesWhileWaiting := by
  intro s k v
  refine ⟨fun waiting => ⟨fun c mem => ?_, ?_⟩, fun ready => ⟨?_, fun bad => ?_⟩⟩
  · have refused (v : Word) (judge : State → State) :=
      congrArg Host.Outcome.next (writeCmd_waiting waiting v judge) (α := State) (β := Result)
    simp only [List.mem_cons, List.not_mem_nil, or_false] at mem
    obtain rfl | rfl | rfl | rfl | rfl | rfl | rfl | rfl | rfl | rfl | rfl | rfl | rfl | rfl | rfl | rfl | rfl | rfl |
      rfl := mem <;> exact refused _ _
  · exact congrArg Host.Outcome.next (if_pos waiting)
  · exact congrArg Host.Outcome.next (if_neg (ne_true_of_eq_false ready))
  · refine congrArg Host.Outcome.next ((writeCmd_ready ready v (judge v)).trans ?_)
    rw [judge_of_not_code bad]
    exact complete_accepted .badCommand v s

/-! ## LINE_SET (R75, R186) -/

theorem lineSetRequest_eq (v : Word) : lineSetRequest v =
    if v.toNat / 16 % 8 = 0 then some .active else if v.toNat / 16 % 8 = 1 then some .inactive
    else if v.toNat / 16 % 8 = 2 then some .toggle else none := by
  have small : v.toNat / 16 % 8 < 8 := Nat.mod_lt _ (by decide)
  have action : controlAction v = actionOfCode (v.toNat / 16 % 8) := rfl
  rw [lineSetRequest, action]
  generalize v.toNat / 16 % 8 = n at small
  interval_cases n <;> rfl

theorem judgeLineSet_some {r : Request} (named : lineSetRequest s.port.params[7] = some r) : judgeLineSet s =
    completeWith (answerResult (request (controlLine s.port.params[7]) r s).1,
      (request (controlLine s.port.params[7]) r s).2) := by
  simp only [judgeLineSet, named]

theorem judgeLineSet_none (unnamed : lineSetRequest s.port.params[7] = none) : judgeLineSet s = badParam s := by
  simp only [judgeLineSet, unnamed]

theorem request_accepted (l : Fin 16) (r : Request) (v : Word) (s : State) :
    request l r (accepted v s) = ((request l r s).1, accepted v (request l r s).2) := by
  refine (request_congr (s := s) (t := accepted v s) rfl rfl).trans (Prod.ext rfl ?_)
  exact Eq.trans rfl (congrArg (accepted v) (request_eq_withLines l r s).symm)

/-- Settles O45: the request is made on the state before, and with the interlock off it is APPLIED. -/
theorem lineSetAnswers : Obligations.LineSetAnswers := by
  refine ⟨fun s ready _ => ?_, fun s l r off => request_of_off off r⟩
  intro code l r
  have taken : exec .lineSet s = .next (judgeLineSet (accepted 0x08 s)) :=
    congrArg Host.Outcome.next (writeCmd_ready ready _ _)
  have line : controlLine s.port.params[7] = l := by
    refine Fin.ext ?_
    simp [controlLine, field, l]
  have named : lineSetRequest s.port.params[7] = if code ≤ 2 then some r else none := by
    rw [lineSetRequest_eq]
    have small : code < 8 := Nat.mod_lt _ (by decide)
    change (if code = 0 then some Request.active else if code = 1 then some .inactive
      else if code = 2 then some .toggle else none) = if code ≤ 2 then
        some (if code = 0 then .active else if code = 1 then .inactive else .toggle) else none
    clear_value code
    interval_cases code <;> rfl
  refine ⟨fun small => ?_, fun large => ?_⟩
  · rw [if_pos small] at named
    rw [taken]
    refine congrArg Host.Outcome.next ((judgeLineSet_some (s := accepted 0x08 s) named).trans ?_)
    change completeWith (answerResult (request (controlLine s.port.params[7]) r (accepted 0x08 s)).1,
      (request (controlLine s.port.params[7]) r (accepted 0x08 s)).2) = _
    rw [line, request_accepted]
    refine (complete_accepted _ _ _).trans (congrArg (fun x => answeredAtOnce 0x08 x _) ?_)
    cases (request l r s).1 <;> rfl
  · rw [if_neg (by omega)] at named
    rw [taken]
    exact congrArg Host.Outcome.next ((judgeLineSet_none (s := accepted 0x08 s) named).trans (badParam_accepted _ s))

/-! ## The group commands (R98, R99, R101, R187) -/

theorem groupParam_of_lt {g : Fin 4} (h : s.port.params[0].toNat = g.val) : groupParam s = some g := by
  have small : s.port.params[0].toNat < 4 := h ▸ g.isLt
  rw [groupParam, dif_pos small]
  exact congrArg some (Fin.ext h)

theorem groupParam_of_ge (h : 4 ≤ s.port.params[0].toNat) : groupParam s = none := dif_neg (by omega)

/-- A group command that names no group is BAD_PARAM (R187). -/
theorem judgeGroup_of_ge (answer : Fin 4 → State → ResultCode × State) (h : 4 ≤ s.port.params[0].toNat) (v : Word) :
    judgeGroup answer (accepted v s) = answeredAtOnce v .badParam s := by
  rw [judgeGroup, groupParam_of_ge (s := accepted v s) h]
  exact badParam_accepted v s

/-- A group command is completed with the group unit's answer on the state before (R98, R99, R101). -/
theorem judgeGroup_of_answer {answer : Fin 4 → State → ResultCode × State} {g : Fin 4} {x : ResultCode} {v : Word}
    (h : s.port.params[0].toNat = g.val) (eq : answer g (accepted v s) = (x, accepted v t)) :
    judgeGroup answer (accepted v s) = answeredAtOnce v x t := by
  rw [judgeGroup, groupParam_of_lt (s := accepted v s) h]
  change completeWith (answer g (accepted v s)) = _
  rw [eq]
  exact complete_accepted x v t

theorem levelAsserted_iff (g : Fin 4) (s : State) : levelAsserted g s = true ↔
    (s.groups[g].use0 = .level ∧ s.pins.trip[0] = false) ∨ (s.groups[g].use1 = .level ∧ s.pins.trip[1] = false) := by
  unfold levelAsserted pinAsserted
  simp only [Bool.or_eq_true, Bool.and_eq_true, decide_eq_true_eq, Bool.not_eq_true']
  rfl

/-- Settles O49: the tables of R98, R99 and R101, case by case. -/
theorem groupCommandsAnswer : Obligations.GroupCommandsAnswer := by
  intro s ready _
  have start : exec .groupStart s = .next (judgeGroup startGroup (accepted 0x10 s)) :=
    congrArg Host.Outcome.next (writeCmd_ready ready _ _)
  have stop : exec .groupStop s = .next (judgeGroup stopGroup (accepted 0x11 s)) :=
    congrArg Host.Outcome.next (writeCmd_ready ready _ _)
  have release : exec .release s = .next (judgeGroup releaseGroup (accepted 0x13 s)) :=
    congrArg Host.Outcome.next (writeCmd_ready ready _ _)
  rw [start, stop, release]
  refine ⟨fun large => ⟨congrArg _ (judgeGroup_of_ge _ large _), congrArg _ (judgeGroup_of_ge _ large _),
    congrArg _ (judgeGroup_of_ge _ large _)⟩, fun g named => ?_⟩
  intro x held withState
  have asserted : levelAsserted g s = true ↔ held := levelAsserted_iff g s
  have free (h : ¬ held) : levelAsserted g s = false := eq_false_of_ne_true (mt asserted.1 h)
  refine ⟨fun off clear => congrArg _ (judgeGroup_of_answer named ?_),
    fun off on => congrArg _ (judgeGroup_of_answer named ?_), fun other => congrArg _ (judgeGroup_of_answer named ?_),
    fun run => congrArg _ (judgeGroup_of_answer named ?_), fun other => congrArg _ (judgeGroup_of_answer named ?_),
    fun other => congrArg _ (judgeGroup_of_answer named ?_),
    fun tripped on => congrArg _ (judgeGroup_of_answer named ?_),
    fun tripped clear purge => congrArg _ (judgeGroup_of_answer named ?_),
    fun tripped clear none => congrArg _ (judgeGroup_of_answer named ?_)⟩
  · simp only [startGroup, show (accepted 0x10 s).groups[g].state = .off from off,
      show levelAsserted g (accepted 0x10 s) = false from free clear]
    rfl
  · simp only [startGroup, show (accepted 0x10 s).groups[g].state = .off from off,
      show levelAsserted g (accepted 0x10 s) = true from asserted.2 on, if_true]
  · unfold startGroup
    split
    · exact absurd ‹_› other
    · rfl
    · rfl
  · simp only [stopGroup, show (accepted 0x11 s).groups[g].state = .run from run]
    rfl
  · unfold stopGroup
    split
    · exact absurd ‹_› other
    · rfl
    · rfl
  · unfold releaseGroup
    split
    · rfl
    · rfl
    · exact absurd ‹_› other
  · simp only [releaseGroup, show (accepted 0x13 s).groups[g].state = .tripped from tripped,
      show levelAsserted g (accepted 0x13 s) = true from asserted.2 on, if_true]
  · simp only [releaseGroup, show (accepted 0x13 s).groups[g].state = .tripped from tripped,
      show levelAsserted g (accepted 0x13 s) = false from free clear,
      show (accepted 0x13 s).groups[g].purgePending = true from purge, if_true]
    rfl
  · simp only [releaseGroup, show (accepted 0x13 s).groups[g].state = .tripped from tripped,
      show levelAsserted g (accepted 0x13 s) = false from free clear]
    exact (if_neg Bool.false_ne_true).trans (if_neg (ne_true_of_eq_false none))

/-! ## TRIP (R100, R188) -/

/-- Settles O48: the mask's requests, and then the completion. -/
theorem tripCommandTripsTheGroupsNamed : Obligations.TripCommandTripsTheGroupsNamed := by
  intro s ready _
  have taken : exec .trip s = .next (judgeTrip (accepted 0x12 s)) :=
    congrArg Host.Outcome.next (writeCmd_ready ready _ _)
  rw [taken]
  refine ⟨fun large => congrArg _ ?_, fun small => ?_⟩
  · exact (if_neg (show ¬ s.port.params[0].toNat < 16 by omega)).trans (badParam_accepted _ s)
  · have eq : judgeTrip (accepted 0x12 s) =
        complete .ok [] (tripMask s.port.params[0].toNat .host (accepted 0x12 s)) := if_pos small
    have requests := tripRequests_tripMask s.port.params[0].toNat .host (accepted 0x12 s)
    have port := tripMask_port s.port.params[0].toNat .host (accepted 0x12 s)
    have irq := onlyTripFlags_tripMask s.port.params[0].toNat .host (accepted 0x12 s)
    refine ⟨_, congrArg Host.Outcome.next eq, ⟨requests.1, requests.2, requests.3, requests.4, requests.5, requests.6,
      requests.7, requests.8, requests.9, requests.10, requests.11, requests.12, requests.13⟩, ?_, ?_,
      tripMask_reactions _ _ _, tripMask_pins _ _ _⟩
    · refine (congrArg (fun p => { p with waiting := false, result := .ok, held := none, res := writeRes [] p.res })
        port).trans ?_
      exact congrArg (fun res => { s.port with
        cmd := 0x12, waiting := false, result := .ok, held := none, res := res }) (writeRes_nil s.port.res)
    · exact congrArg (fun q => { q with flags := { q.flags with cmdDone := true } }) irq

end Sys2Proof.Machine
end

section
/-! Chapter Batches: the commands of the batch unit (R145 to R148, R150, R156, R189 to R191). The batch unit's
answers look at the port's parameters and not at the command word, so an answer on the accepted command is that on
the state before. -/

-- Each lemma waits for the ones before it: elaborated side by side they hold a thread each.
set_option Elab.async false

namespace Sys2Proof.Machine

variable {s t u : State} {v : Word}

/-! ## The answers (R145, R147, R148, R156) -/

/-- The answer of the batch unit to a staging command, by the batch's state (R145). -/
theorem stage_armed (e : Edit) (armed : s.batch.state = .armed) : stage e s = (.batchState, s) := by
  simp only [stage, armed]

theorem stage_opened (e : Edit) (opened : s.batch.state = .opened) : stage e s =
    if s.batch.staging.length < 16 then (.ok, withBatch { s.batch with staging := s.batch.staging ++ [e] } s)
    else (.batchFull, s) := by
  have same : stagedBatch e s.batch = { s.batch with staging := s.batch.staging ++ [e] } := by
    rw [stagedBatch, ← opened]
  simp only [stage, opened, same]
  rfl

/-- Outside OPEN and ARMED an edit begins a new batch (R145). -/
theorem stage_begins (e : Edit) (notOpened : s.batch.state ≠ .opened) (notArmed : s.batch.state ≠ .armed) :
    stage e s =
      (.ok, withBatch { resetBatch with state := .opened, staging := [e], sel := s.batch.sel } s) := by
  cases state : s.batch.state with
  | opened => exact absurd state notOpened
  | armed => exact absurd state notArmed
  | _ =>
    simp only [stage, state]
    rfl

theorem commitNow_opened (opened : s.batch.state = .opened) : commitNow s =
    (.ok, withArbiter { s.arbiter with apply := true }
      (withBatch { s.batch with state := .armed, boundary := some .now } s)) := by
  simp only [commitNow, opened]

theorem commitNow_not_opened (other : s.batch.state ≠ .opened) : commitNow s = (.batchState, s) := by
  unfold commitNow
  split
  · exact absurd ‹_› other
  all_goals rfl

theorem commitEntry_not_opened (h : Handle) (other : s.batch.state ≠ .opened) :
    commitEntry h s = (.batchState, s) := by
  unfold commitEntry
  split
  · exact absurd ‹_› other
  all_goals rfl

theorem commitEntry_stale {h : Handle} (opened : s.batch.state = .opened) (stale : resolve h s = .stale) :
    commitEntry h s = (.stale, s) := by
  simp only [commitEntry, opened, stale]

theorem commitEntry_notPending {h : Handle} (opened : s.batch.state = .opened) (free : resolve h s = .notPending) :
    commitEntry h s = (.notPending, s) := by
  simp only [commitEntry, opened, free]

theorem commitEntry_of_pending {h : Handle} {e : Entry} (opened : s.batch.state = .opened)
    (pending : resolve h s = .pending e) : commitEntry h s =
      (.ok, withBatch { s.batch with state := .armed, boundary := some (.entry h), watch := some h } s) := by
  simp only [commitEntry, opened, pending]

theorem discard_ended (ended : s.batch.state = .applied ∨ s.batch.state = .failed ∨ s.batch.state = .abandoned) :
    discard s = (.batchState, s) := by
  obtain state | state | state := ended <;> simp only [discard, state]

/-! ## At acceptance (R173, R176, R189 to R191) -/

/-- An answer that looks at neither CMD nor RESULT. -/
def AsBefore (answer : State → ResultCode × State) : Prop :=
  ∀ (v : Word) (s : State), answer (accepted v s) = ((answer s).1, accepted v (answer s).2)

theorem asBefore_stage (e : Edit) : AsBefore (stage e) := by
  intro v s
  unfold stage
  dsimp only [accepted, withPort_batch]
  split
  · rfl
  · split <;> rfl
  all_goals rfl

theorem asBefore_commitNow : AsBefore commitNow := by
  intro v s
  unfold commitNow
  dsimp only [accepted, withPort_batch]
  split <;> rfl

theorem asBefore_commitEntry (h : Handle) : AsBefore (commitEntry h) := by
  intro v s
  have same : resolve h (accepted v s) = resolve h s := rfl
  unfold commitEntry
  rw [same]
  dsimp only [accepted, withPort_batch]
  split
  · split <;> rfl
  all_goals rfl

theorem asBefore_discard : AsBefore discard := by
  intro v s
  unfold discard
  dsimp only [accepted, withPort_batch]
  split <;> rfl

theorem completeWith_accepted {answer : State → ResultCode × State} (asBefore : AsBefore answer) (v : Word)
    (s : State) : completeWith (answer (accepted v s)) = answeredAtOnce v (answer s).1 (answer s).2 := by
  rw [asBefore, completeWith]
  exact complete_accepted _ v _

theorem judgeBatch_free (free : ¬ applying s) (answer : State → ResultCode × State) :
    judgeBatch answer s = completeWith (answer s) := if_neg (mt (applyRuns_iff s).1 free)

theorem judgeBatch_applying (busy : applying s) (answer : State → ResultCode × State) :
    judgeBatch answer s = hold .duringApply s := if_pos ((applyRuns_iff s).2 busy)

theorem answerInsert_eq {i : Insertion} (named : insertionOf s.port.params = some i) :
    answerInsert s = stage (.insert i) s := by
  simp only [answerInsert, insertEdit, named, Option.map_some]

theorem judgeBatchInsert_ok (ok : insertParamsOk s.port.params = true) :
    judgeBatchInsert s = judgeBatch answerInsert s := by
  obtain ⟨i, named⟩ := Option.isSome_iff_exists.1 ((insertionOf_isSome s.port.params).trans ok)
  simp only [judgeBatchInsert, insertEdit, named, Option.map_some]

theorem judgeBatchInsert_bad (bad : insertParamsOk s.port.params = false) : judgeBatchInsert s = badParam s := by
  simp only [judgeBatchInsert, insertEdit, insertionOf_of_not_ok bad, Option.map_none]

theorem judgeCommit_now (now : s.port.params[0].toNat = 0) : judgeCommit s = judgeBatch answerCommit s := by
  simp only [judgeCommit, now]

theorem judgeCommit_entry (entry : s.port.params[0].toNat = 1) : judgeCommit s =
    if applyRuns s then hold .duringApply s else if s.arbiter.activity.isSome then hold .commitEntry s
    else completeWith (answerCommit s) := by
  simp only [judgeCommit, entry]

theorem judgeCommit_bad (bad : 2 ≤ s.port.params[0].toNat) : judgeCommit s = badParam s := by
  unfold judgeCommit
  split
  · omega
  · omega
  · rfl

theorem answerCommit_now (now : s.port.params[0].toNat = 0) : answerCommit s = commitNow s := by
  simp only [answerCommit, now]

theorem answerCommit_entry (entry : s.port.params[0].toNat = 1) :
    answerCommit s = commitEntry (handleOfWord s.port.params[1]) s := by
  simp only [answerCommit, entry]

/-- Settles O56: an edit is staged by the batch's state. -/
theorem stagingCommandsAnswer : Obligations.StagingCommandsAnswer := by
  intro s ready _ free b answer h
  have staged (v : Word) (e : Edit) : answeredAtOnce v (stage e s).1 (stage e s).2 = answer v e := by
    simp only [answer]
    cases state : b.state with
    | armed => rw [stage_armed e state]
    | opened =>
      rw [stage_opened e state]
      dsimp only
      split
      · rw [show s.batch.state = .opened from state]
        rfl
      · rfl
    | empty => rw [stage_begins e (by simp [b, state] : s.batch.state ≠ _) (by simp [b, state])]; rfl
    | applied => rw [stage_begins e (by simp [b, state]) (by simp [b, state])]; rfl
    | failed => rw [stage_begins e (by simp [b, state]) (by simp [b, state])]; rfl
    | abandoned => rw [stage_begins e (by simp [b, state]) (by simp [b, state])]; rfl
  have freeAfter (v : Word) : ¬ applying (accepted v s) := free
  have batch (v : Word) (f : State → ResultCode × State) (e : Edit) (same : f (accepted v s) = stage e (accepted v s)) :
      judgeBatch f (accepted v s) = answer v e := by
    rw [judgeBatch_free (freeAfter v), same, completeWith_accepted (asBefore_stage e), staged]
  have taken (v : Word) (judge : State → State) := congrArg Host.Outcome.next (writeCmd_ready ready v judge)
    (α := State) (β := Result)
  refine ⟨fun bad => ?_, fun i named => ?_, ?_, ?_⟩
  · exact (taken _ _).trans (congrArg _ ((judgeBatchInsert_bad (s := accepted 0x20 s) bad).trans
      (badParam_accepted _ s)))
  · have ok : insertParamsOk s.port.params = true := (insertionOf_isSome _).symm.trans (by rw [named]; rfl)
    exact (taken _ _).trans (congrArg _ ((judgeBatchInsert_ok (s := accepted 0x20 s) ok).trans
      (batch _ _ _ (answerInsert_eq (s := accepted 0x20 s) named))))
  · exact (taken _ _).trans (congrArg _ (batch _ _ _ rfl))
  · exact (taken _ _).trans (congrArg _ (batch _ _ _ rfl))

/-- Settles O57: a commit and a discard by the batch's state, at once. -/
theorem commitAndDiscardAnswer : Obligations.CommitAndDiscardAnswer := by
  intro s ready _ b mode h
  have commit : exec .batchCommit s = .next (judgeCommit (accepted 0x23 s)) :=
    congrArg Host.Outcome.next (writeCmd_ready ready _ _)
  have discards : exec .batchDiscard s = .next (judgeBatch discard (accepted 0x24 s)) :=
    congrArg Host.Outcome.next (writeCmd_ready ready _ _)
  refine ⟨fun bad => ?_, fun free => ?_, fun idle entry => ?_⟩
  · rw [commit]
    exact congrArg _ ((judgeCommit_bad (s := accepted 0x23 s) bad).trans (badParam_accepted _ s))
  · have nowAnswer (now : mode = 0) : judgeCommit (accepted 0x23 s) =
        answeredAtOnce 0x23 (commitNow s).1 (commitNow s).2 := by
      rw [judgeCommit_now (s := accepted 0x23 s) now, judgeBatch_free (s := accepted 0x23 s) free,
        answerCommit_now (s := accepted 0x23 s) now, completeWith_accepted asBefore_commitNow]
    have discarded : judgeBatch discard (accepted 0x24 s) = answeredAtOnce 0x24 (discard s).1 (discard s).2 := by
      rw [judgeBatch_free (s := accepted 0x24 s) free, completeWith_accepted asBefore_discard]
    rw [commit, discards, discarded]
    refine ⟨fun now other => ?_, fun now opened => ?_, fun empty => ?_, fun opened => ?_, fun armed => ?_,
      fun ended => ?_⟩
    · rw [nowAnswer now, commitNow_not_opened other]
    · rw [nowAnswer now, commitNow_opened opened]
      rfl
    · simp only [discard, show s.batch.state = .empty from empty]
    · simp only [discard, show s.batch.state = .opened from opened]
      rfl
    · simp only [discard, show s.batch.state = .armed from armed]
      rfl
    · rw [discard_ended ended]
  · have answered : judgeCommit (accepted 0x23 s) = answeredAtOnce 0x23 (commitEntry h s).1 (commitEntry h s).2 := by
      have notApply : ¬ applyRuns (accepted 0x23 s) = true := by
        rw [applyRuns_iff]
        exact fun busy => applying_busy busy idle
      have notServing : ¬ (accepted 0x23 s).arbiter.activity.isSome = true := by
        rw [show (accepted 0x23 s).arbiter.activity = none from idle]
        decide
      rw [judgeCommit_entry (s := accepted 0x23 s) entry, if_neg notApply, if_neg notServing,
        answerCommit_entry (s := accepted 0x23 s) entry]
      exact completeWith_accepted (asBefore_commitEntry h) 0x23 s
    rw [commit, answered]
    refine ⟨fun other => ?_, fun opened => ⟨fun stale => ?_, fun notPending => ?_, fun e pending => ?_⟩⟩
    · rw [commitEntry_not_opened h other]
    · rw [commitEntry_stale opened stale]
    · rw [commitEntry_notPending opened notPending]
    · rw [commitEntry_of_pending opened pending]
      rfl

/-! ## Held answers (R148, R150, R176) -/

theorem heldAnswer_busy (why : Held) (busy : s.arbiter.activity ≠ none) : heldAnswer why s = s :=
  if_neg fun both => busy both.2

theorem heldAnswer_idle {why : Held} (held : s.port.held = some why) (idle : s.arbiter.activity = none) :
    heldAnswer why s = completeWith (answerHeld s) := if_pos ⟨held, idle⟩

/-- Settles O58: a command held leaves the port WAITING, and its answer is that of the state at its end. -/
theorem heldCommandsAnsweredAtTheEnd : Obligations.HeldCommandsAnsweredAtTheEnd := by
  refine ⟨fun s ready => ?_, fun s busy => ⟨congrArg _ (heldAnswer_busy _ busy), congrArg _ (heldAnswer_busy _ busy)⟩,
    fun s idle => ?_⟩
  · intro held mode
    have taken (v : Word) (judge : State → State) := congrArg Host.Outcome.next (writeCmd_ready ready v judge)
      (α := State) (β := Result)
    refine ⟨fun busy => ?_, fun serving notApply entry => ?_⟩
    · have holds (v : Word) (f : State → ResultCode × State) : judgeBatch f (accepted v s) = held .duringApply v :=
        judgeBatch_applying (s := accepted v s) busy f
      refine ⟨fun ok => ?_, fun bad => ?_, ?_, ?_, fun small => ?_, fun large => ?_, ?_⟩
      · exact (taken _ _).trans (congrArg _ ((judgeBatchInsert_ok (s := accepted 0x20 s) ok).trans (holds _ _)))
      · exact (taken _ _).trans (congrArg _ ((judgeBatchInsert_bad (s := accepted 0x20 s) bad).trans
          (badParam_accepted _ s)))
      · exact (taken _ _).trans (congrArg _ (holds _ _))
      · exact (taken _ _).trans (congrArg _ (holds _ _))
      · refine (taken _ _).trans (congrArg _ ?_)
        obtain now | entry : mode = 0 ∨ mode = 1 := by omega
        · exact (judgeCommit_now (s := accepted 0x23 s) now).trans (holds _ _)
        · refine (judgeCommit_entry (s := accepted 0x23 s) entry).trans ?_
          exact if_pos ((applyRuns_iff (accepted 0x23 s)).2 busy)
      · exact (taken _ _).trans (congrArg _ ((judgeCommit_bad (s := accepted 0x23 s) large).trans
          (badParam_accepted _ s)))
      · exact (taken _ _).trans (congrArg _ (holds _ _))
    · refine (taken _ _).trans (congrArg _ ((judgeCommit_entry (s := accepted 0x23 s) entry).trans ?_))
      refine (if_neg (mt (applyRuns_iff (accepted 0x23 s)).1 notApply)).trans ?_
      exact if_pos (Option.isSome_iff_ne_none.2 serving)
  · intro b h begun
    refine ⟨fun held ended => ?_, fun held cmd entry => ?_⟩
    · have answered : exec .heldBatchAnswer s = .next (completeWith (answerHeld s)) :=
        congrArg _ (heldAnswer_idle held idle)
      have notOpened : s.batch.state ≠ .opened := by
        obtain state | state := ended <;> exact fun n => nomatch state.symm.trans n
      have notArmed : s.batch.state ≠ .armed := by
        obtain state | state := ended <;> exact fun n => nomatch state.symm.trans n
      have begins (e : Edit) : completeWith (stage e s) = begun e := by
        rw [stage_begins e notOpened notArmed]
        rfl
      rw [answered]
      refine ⟨fun cmd i named => ?_, fun cmd => ?_, fun cmd => ?_, fun cmd small => ?_, fun cmd => ?_⟩
      · have own : answerHeld s = answerInsert s := by rw [answerHeld, cmd]; rfl
        rw [own, answerInsert_eq named, begins]
      · have own : answerHeld s = answerCancel s := by rw [answerHeld, cmd]; rfl
        rw [own, answerCancel, begins]
        rfl
      · have own : answerHeld s = answerRetime s := by rw [answerHeld, cmd]; rfl
        rw [own, answerRetime, begins]
        rfl
      · have own : answerHeld s = answerCommit s := by rw [answerHeld, cmd]; rfl
        obtain now | entry : s.port.params[0].toNat = 0 ∨ s.port.params[0].toNat = 1 := by omega
        · rw [own, answerCommit_now now, commitNow_not_opened notOpened]
          rfl
        · rw [own, answerCommit_entry entry, commitEntry_not_opened _ notOpened]
          rfl
      · have own : answerHeld s = discard s := by rw [answerHeld, cmd]; rfl
        rw [own, discard_ended (by obtain state | state := ended <;> simp [b] at state <;> simp [state])]
        rfl
    · have answered : exec .commitEntryAnswer s = .next (completeWith (answerHeld s)) :=
        congrArg _ (heldAnswer_idle held idle)
      have own : answerHeld s = commitEntry h s := by
        have mode : s.port.params[0].toNat = 1 := congrArg BitVec.toNat entry
        have commit : answerHeld s = answerCommit s := by rw [answerHeld, cmd]; rfl
        rw [commit, answerCommit_entry mode]
      rw [answered, own]
      refine ⟨fun other => ?_, fun opened => ⟨fun stale => ?_, fun notPending => ?_, fun e pending => ?_⟩⟩
      · rw [commitEntry_not_opened h other]
        rfl
      · rw [commitEntry_stale opened stale]
        rfl
      · rw [commitEntry_notPending opened notPending]
        rfl
      · rw [commitEntry_of_pending opened pending]
        rfl

end Sys2Proof.Machine
end

section
/-! Chapter Reactions: a capture handed over to the table (R132 to R136, R138). The rows are compared in order; each
looks at its own row, which the rows before it leave, so the outcome is told row by row (`HandedOff`). -/

-- Each lemma waits for the ones before it: elaborated side by side they hold a thread each.
set_option Elab.async false

namespace Sys2Proof.Machine

variable {s t u : State} {n : Fin 8} {e : Edge} {time : Time}

/-! ## One row after the other -/

/-- The row matches the capture (R132, R133). -/
def rowHit (n : Fin 8) (e : Edge) (time : Time) (s : State) (k : Fin 16) : Bool :=
  rowMatches s.reactions.rows[k] n e time

/-- The record that the row's match offers (R134, R135). -/
def matchRecord (n : Fin 8) (e : Edge) (time : Time) (s : State) (k : Fin 16) : Option PendingReaction :=
  if rowHit n e time s k then
    match s.reactions.rows[k].kind with
    | .schedule => some (pendingRecord k .schedule s.reactions.rows[k] time)
    | .cancelTag => some (pendingRecord k .cancelTag s.reactions.rows[k] time)
    | .trip => none
  else none

/-- The row's match sends the group a trip request (R138). -/
def rowTrips (n : Fin 8) (e : Edge) (time : Time) (s : State) (g : Fin 4) (k : Fin 16) : Bool :=
  rowHit n e time s k && decide (s.reactions.rows[k].kind = .trip) && s.reactions.rows[k].groupMask.getLsbD g.val

/-- What a capture leaves once the rows of `done` have been compared with it (R132 to R138). -/
structure HandedOff (n : Fin 8) (e : Edge) (time : Time) (done : List (Fin 16)) (s t : State) : Prop where
  rows : ∀ k : Fin 16, t.reactions.rows[k] =
    if decide (k ∈ done) && rowHit n e time s k then matchedRow s.reactions.rows[k] time else s.reactions.rows[k]
  fifo : t.reactions.fifo = s.reactions.fifo ++
    (done.filterMap (matchRecord n e time s)).take (8 - s.reactions.fifo.length)
  lost : s.reactions.lost ≤ 255 → t.reactions.lost = min 255 (s.reactions.lost +
    ((done.filterMap (matchRecord n e time s)).length - (8 - s.reactions.fifo.length)))
  reactLost : t.irq.flags.reactLost = (s.irq.flags.reactLost ||
    decide (8 - s.reactions.fifo.length < (done.filterMap (matchRecord n e time s)).length))
  trips : TripRequests (fun g => done.any (rowTrips n e time s g)) .reaction s t
  port : t.port = s.port
  pins : t.pins = s.pins

theorem HandedOff.nil (n : Fin 8) (e : Edge) (time : Time) (s : State) : HandedOff n e time [] s s where
  rows k := by simp
  fifo := by simp
  lost small := by simp [small]
  reactLost := by simp
  trips := (TripRequests.refl _ s).congr fun _ => rfl
  port := rfl
  pins := rfl

/-- The row of the next comparison stands as it was. -/
theorem HandedOff.row {done : List (Fin 16)} {k : Fin 16} (h : HandedOff n e time done s t) (fresh : k ∉ done) :
    t.reactions.rows[k] = s.reactions.rows[k] := by
  rw [h.rows, decide_eq_false fresh]
  rfl

section
variable {done : List (Fin 16)} {k : Fin 16} (h : HandedOff n e time done s t)
include h

theorem HandedOff.compareRow_eq (fresh : k ∉ done) : compareRow n e time t k =
    if rowHit n e time s k then
      answerMatch k s.reactions.rows[k] time (setRow k (matchedRow s.reactions.rows[k] time) t)
    else t := by
  unfold compareRow
  dsimp only
  rw [h.row fresh]
  rfl

/-- The rows after the comparison of one row more. -/
theorem HandedOff.rows_step (hit : rowHit n e time s k = true) (j : Fin 16) :
    (setRow k (matchedRow s.reactions.rows[k] time) t).reactions.rows[j] =
      if decide (j ∈ done ++ [k]) && rowHit n e time s j then matchedRow s.reactions.rows[j] time
      else s.reactions.rows[j] := by
  refine (getElem_set_fin t.reactions.rows k j _).trans ?_
  by_cases own : j = k
  · subst j
    simp [hit]
  · rw [if_neg own, h.rows]
    simp [own]

/-- A row that does not match leaves all as it is (R132). -/
theorem HandedOff.miss (miss : rowHit n e time s k = false) : HandedOff n e time (done ++ [k]) s t := by
  have none : [k].filterMap (matchRecord n e time s) = [] := by simp [matchRecord, miss]
  have all : (done ++ [k]).filterMap (matchRecord n e time s) = done.filterMap (matchRecord n e time s) := by
    rw [List.filterMap_append, none, List.append_nil]
  refine ⟨fun j => ?_, by rw [all]; exact h.fifo, by rw [all]; exact h.lost, by rw [all]; exact h.reactLost,
    h.trips.congr fun g => ?_, h.port, h.pins⟩
  · rw [h.rows]
    by_cases own : j = k
    · subst j
      simp [miss]
    · simp [own]
  · simp [rowTrips, miss]

/-- A TRIP row that matches sends its requests (R138). -/
theorem HandedOff.sends (hit : rowHit n e time s k = true) (kind : s.reactions.rows[k].kind = .trip) :
    HandedOff n e time (done ++ [k]) s (tripMask s.reactions.rows[k].groupMask.toNat .reaction
      (setRow k (matchedRow s.reactions.rows[k] time) t)) := by
  have none : [k].filterMap (matchRecord n e time s) = [] := by
    simp only [List.filterMap_cons, List.filterMap_nil, matchRecord, hit, kind, if_true]
  have all : (done ++ [k]).filterMap (matchRecord n e time s) = done.filterMap (matchRecord n e time s) := by
    rw [List.filterMap_append, none, List.append_nil]
  have requests := tripRequests_tripMask s.reactions.rows[k].groupMask.toNat .reaction
    (setRow k (matchedRow s.reactions.rows[k] time) t)
  have irq := onlyTripFlags_tripMask s.reactions.rows[k].groupMask.toNat .reaction
    (setRow k (matchedRow s.reactions.rows[k] time) t)
  have reactions := tripMask_reactions s.reactions.rows[k].groupMask.toNat .reaction
    (setRow k (matchedRow s.reactions.rows[k] time) t)
  have trips : TripRequests (fun g => done.any (rowTrips n e time s g)) .reaction s
      (setRow k (matchedRow s.reactions.rows[k] time) t) :=
    ⟨h.trips.1, h.trips.2, h.trips.3, h.trips.4, h.trips.5, h.trips.6, h.trips.7, h.trips.8, h.trips.9, h.trips.10,
      h.trips.11, h.trips.12, h.trips.13⟩
  refine ⟨fun j => ?_, ?_, ?_, ?_, (trips.trans requests).congr fun g => ?_, (tripMask_port _ _ _).trans h.port,
    (tripMask_pins _ _ _).trans h.pins⟩
  · rw [reactions]
    exact h.rows_step hit j
  · rw [reactions, all]
    exact h.fifo
  · rw [reactions, all]
    exact h.lost
  · rw [irq, all]
    exact h.reactLost
  · rw [List.any_append]
    simp only [List.any_cons, List.any_nil, Bool.or_false, rowTrips, hit, kind, decide_true, Bool.true_and]
    rfl

/-- A SCHEDULE or CANCEL_TAG row that matches offers its record (R134 to R136). -/
theorem HandedOff.offers (hit : rowHit n e time s k = true) (kind : s.reactions.rows[k].kind ≠ .trip)
    {r : PendingReaction} (offered : matchRecord n e time s k = some r) :
    HandedOff n e time (done ++ [k]) s (offerReaction r (setRow k (matchedRow s.reactions.rows[k] time) t)) := by
  have all : (done ++ [k]).filterMap (matchRecord n e time s) = done.filterMap (matchRecord n e time s) ++ [r] := by
    rw [List.filterMap_append]
    simp [offered]
  have trips (u : State) (irq : u.irq.flags.trip = t.irq.flags.trip)
      (same : u = { t with reactions := u.reactions, irq := u.irq }) :
      TripRequests (fun g => (done ++ [k]).any (rowTrips n e time s g)) .reaction s u := by
    refine TripRequests.congr (named := fun g => done.any (rowTrips n e time s g)) ?_ fun g => ?_
    · rw [same]
      refine ⟨h.trips.1, fun g => ?_, h.trips.3, h.trips.4, h.trips.5, h.trips.6, h.trips.7, h.trips.8, h.trips.9,
        h.trips.10, h.trips.11, h.trips.12, h.trips.13⟩
      rw [← h.trips.2]
      simp only [irq]
    · simp [-Fin.getElem_fin, rowTrips, kind]
  have length : t.reactions.fifo.length = s.reactions.fifo.length +
      min (8 - s.reactions.fifo.length) (done.filterMap (matchRecord n e time s)).length := by
    rw [h.fifo, List.length_append, List.length_take]
  obtain ⟨room, eq⟩ | ⟨full, eq⟩ := offerReaction_cases r (setRow k (matchedRow s.reactions.rows[k] time) t)
  · have room : t.reactions.fifo.length < 8 := room
    have fits : 1 ≤ 8 - s.reactions.fifo.length - (done.filterMap (matchRecord n e time s)).length := by omega
    rw [eq]
    refine ⟨h.rows_step hit, ?_, fun small => ?_, ?_, trips _ rfl rfl, h.port, h.pins⟩
    · change t.reactions.fifo ++ [r] = _
      rw [h.fifo, all, List.take_append, List.append_assoc, List.take_of_length_le (l := [r]) fits]
    · change t.reactions.lost = _
      rw [h.lost small, all, List.length_append, List.length_singleton]
      omega
    · change t.irq.flags.reactLost = _
      rw [h.reactLost, all, List.length_append, List.length_singleton]
      congr 1
      exact decide_eq_decide.2 (by omega)
  · have full : 8 ≤ t.reactions.fifo.length := full
    have none : 8 - s.reactions.fifo.length - (done.filterMap (matchRecord n e time s)).length = 0 := by omega
    rw [eq]
    refine ⟨h.rows_step hit, ?_, fun small => ?_, ?_, trips _ rfl rfl, h.port, h.pins⟩
    · change t.reactions.fifo = _
      rw [h.fifo, all, List.take_append, none, List.take_zero, List.append_nil]
    · change min 255 (t.reactions.lost + 1) = _
      rw [h.lost small, all, List.length_append, List.length_singleton]
      omega
    · change true = _
      rw [all, List.length_append, List.length_singleton, decide_eq_true (by omega), Bool.or_true]

end

theorem handedOff_foldl (n : Fin 8) (e : Edge) (time : Time) (l : List (Fin 16)) {done : List (Fin 16)}
    (apart : (done ++ l).Nodup) (h : HandedOff n e time done s t) :
    HandedOff n e time (done ++ l) s (l.foldl (compareRow n e time) t) := by
  induction l generalizing t done with
  | nil => rwa [List.append_nil]
  | cons k l ih =>
    have fresh : k ∉ done := fun mem => (List.disjoint_of_nodup_append apart) mem List.mem_cons_self
    rw [List.append_cons, List.foldl_cons]
    refine ih (by rwa [← List.append_cons]) ?_
    rw [h.compareRow_eq fresh]
    cases hit : rowHit n e time s k with
    | false => exact h.miss hit
    | true =>
      rw [if_pos rfl]
      unfold answerMatch
      cases kind : s.reactions.rows[k].kind with
      | trip => exact h.sends hit kind
      | schedule => exact h.offers hit (by simp [kind, -Fin.getElem_fin]) (by simp only [matchRecord, hit, kind, if_true])
      | cancelTag => exact h.offers hit (by simp [kind, -Fin.getElem_fin]) (by simp only [matchRecord, hit, kind, if_true])

/-- A capture handed over, told row by row. -/
theorem handedOff_handOff (n : Fin 8) (e : Edge) (time : Time) (s : State) :
    HandedOff n e time (List.finRange 16) s (handOff n e time s) := by
  have all := handedOff_foldl n e time (List.finRange 16) (done := []) (List.nodup_finRange 16) (.nil n e time s)
  rwa [List.nil_append] at all

/-- Settles O55: the rows' outcomes over all sixteen. -/
theorem handOffMatchesTheTable : Obligations.HandOffMatchesTheTable := by
  intro s n e time hit record offered room t
  have all := handedOff_handOff n e time s
  have same (k : Fin 16) : rowHit n e time s k = hit k := by
    simp only [rowHit, rowMatches, inHoldoff, hit]
    cases s.reactions.rows[k].lastMatch <;> rfl
  have records : (List.finRange 16).filterMap (matchRecord n e time s) = offered := by
    refine List.filterMap_congr fun k _ => ?_
    simp only [matchRecord, same]
    cases hit k
    · rfl
    · cases kind : s.reactions.rows[k].kind <;> rfl
  have rows := all.rows
  have isT : t = handOff n e time s := rfl
  have isRoom : room = 8 - s.reactions.fifo.length := rfl
  clear_value t room offered
  obtain ⟨-, fifo, lost, reactLost, trips, port, pins⟩ := all
  rw [records, ← isRoom, ← isT] at fifo lost reactLost
  rw [← isT] at rows trips port pins
  refine ⟨fun k => ?_, fifo, lost, reactLost, ?_, port, pins⟩
  · rw [rows, same]
    simp only [List.mem_finRange, decide_true, Bool.true_and]
    rfl
  · refine trips.congr fun g => congrArg _ (funext fun k => ?_)
    rw [rowTrips, same]

end Sys2Proof.Machine
end

section
/-! Chapter Input Lines and the Capture Queue: samples, filter runs and captures (R107, R109 to R113, R115 to R117,
R121). An accepted change is told by one equation per case; a sample moment of several inputs is told input by
input, on a state whose capture unit, input pins and CAP_LOST are framed by what the hand-overs leave. -/

-- Each lemma waits for the ones before it: elaborated side by side they hold a thread each.
set_option Elab.async false

namespace Sys2Proof.Machine

variable {s t u : State} {n : Fin 8} {level : Bool} {time : Time} {i : Input}

/-! ## Accepted changes (R112, R116, R117, R121) -/

theorem setInput_setInput (n : Fin 8) (i j : Input) (s : State) :
    setInput n i (setInput n j s) = setInput n i s := by
  have same : (s.capture.inputs.set n j).set n i = s.capture.inputs.set n i := by
    ext k h
    simp only [Vector.getElem_set]
    split <;> rfl
  exact congrArg (fun v => withCapture { s.capture with inputs := v } s) same

theorem setInput_input (n : Fin 8) (i : Input) (s : State) : (setInput n i s).capture.inputs[n] = i :=
  Vector.getElem_set_self n.isLt

/-- An accepted change whose edge is not admitted settles the input alone (R112). -/
theorem acceptChange_silent (closed : admits i.edge (edgeTo level) = false) (time : Time) :
    acceptChange n level time (setInput n i s) = setInput n { i with settled := level } s := by
  unfold acceptChange
  simp only [setInput_input, setInput_setInput, closed]
  rfl

/-- An accepted change whose edge is admitted is handed over, and offered where the input is queued (R112, R121). -/
theorem acceptChange_captured (admitted : admits i.edge (edgeTo level) = true) (time : Time) :
    acceptChange n level time (setInput n i s) =
      if i.queued then
        offerCapture n (edgeTo level) time (i.filter != 0)
          (handOff n (edgeTo level) time (setInput n { i with settled := level } s))
      else handOff n (edgeTo level) time (setInput n { i with settled := level } s) := by
  unfold acceptChange
  simp only [setInput_input, setInput_setInput, admitted, if_true]

/-- The capture offered behind its hand-over joins the queue, or is lost and counted (R116, R117). -/
theorem offerCapture_handOff (e : Edge) (time : Time) (filtered : Bool) (s : State) :
    (s.capture.queue.length < 32 → offerCapture n e time filtered (handOff n e time s) =
      { handOff n e time s with capture := { s.capture with
          seq := s.capture.seq + 1
          queue := s.capture.queue ++
            [{ seq := s.capture.seq, line := n, edge := e, time := time, filtered := filtered }] } }) ∧
    (32 ≤ s.capture.queue.length → offerCapture n e time filtered (handOff n e time s) =
      { handOff n e time s with
        capture := { s.capture with seq := s.capture.seq + 1, lost := min 255 (s.capture.lost + 1) }
        irq := { (handOff n e time s).irq with flags := { (handOff n e time s).irq.flags with capLost := true } } }) := by
  have capture := handOff_capture n e time s
  obtain ⟨room, eq⟩ | ⟨full, eq⟩ := offerCapture_cases n e time filtered (handOff n e time s)
  · rw [eq, capture]
    rw [capture] at room
    exact ⟨fun _ => rfl, fun full => by omega⟩
  · rw [eq, capture]
    rw [capture] at full
    exact ⟨fun room => by omega, fun _ => rfl⟩

theorem admits_iff (sel : EdgeSelect) (level : Bool) : admits sel (edgeTo level) = true ↔
    sel = .both ∨ (sel = .rise ∧ level = true) ∨ (sel = .fall ∧ level = false) := by
  cases sel <;> cases level <;> decide

/-! ## Samples of unfiltered inputs (R110) -/

theorem sampleInput_filtered (enabled : s.capture.inputs[n].enable = true) (filtered : s.capture.inputs[n].filter ≠ 0) :
    sampleInput n level s = setInput n { s.capture.inputs[n] with sampled := level } s := by
  simp only [sampleInput, enabled, filtered, Bool.not_true, Bool.false_eq_true, if_false]

theorem sampleInput_disabled (disabled : s.capture.inputs[n].enable = false) :
    sampleInput n level s = setInput n { s.capture.inputs[n] with sampled := level, settled := level } s := by
  simp only [sampleInput, disabled, Bool.not_false, if_true]

theorem sampleInput_same (enabled : s.capture.inputs[n].enable = true) (unfiltered : s.capture.inputs[n].filter = 0)
    (same : level = s.capture.inputs[n].settled) :
    sampleInput n level s = setInput n { s.capture.inputs[n] with sampled := level } s := by
  simp only [sampleInput, enabled, unfiltered, Bool.not_true, Bool.false_eq_true, if_false, if_true, if_pos same]

theorem sampleInput_changed (enabled : s.capture.inputs[n].enable = true)
    (unfiltered : s.capture.inputs[n].filter = 0) (changed : level ≠ s.capture.inputs[n].settled) :
    sampleInput n level s = acceptChange n level s.timebase.time
      (setInput n { s.capture.inputs[n] with sampled := level, candidate := level, runCount := 0 } s) := by
  simp only [sampleInput, enabled, unfiltered, Bool.not_true, Bool.false_eq_true, if_false, if_true, if_neg changed]

/-- Settles O51: the sample by the input's kind, and the accepted change by its edge and its queue. -/
theorem inputSamplesAreCaptured : Obligations.InputSamplesAreCaptured := by
  intro s n level i e now seen next changed record
  have exec_eq : exec (.inputChange n level) s = .next (sampleInput n level seen) := rfl
  refine ⟨fun sel => admits_iff sel level, rfl, fun enabled filtered => ?_, fun disabled => ?_,
    fun enabled unfiltered same => ?_, fun enabled unfiltered differs closed => ?_,
    fun enabled unfiltered differs admitted => ?_⟩
  · exact congrArg _ (sampleInput_filtered (s := seen) enabled filtered)
  · exact congrArg _ (sampleInput_disabled (s := seen) disabled)
  · exact congrArg _ (sampleInput_same (s := seen) enabled unfiltered same)
  · exact congrArg _ ((sampleInput_changed (s := seen) enabled unfiltered differs).trans
      (acceptChange_silent (s := seen)
        (i := { i with sampled := level, candidate := level, runCount := 0 }) closed now))
  · have captured := (sampleInput_changed (s := seen) enabled unfiltered differs).trans
      (acceptChange_captured (s := seen) (i := { i with sampled := level, candidate := level, runCount := 0 })
        admitted now)
    have notFiltered : (i.filter != 0) = false := by rw [show i.filter = 0 from unfiltered]; rfl
    change sampleInput n level seen = if i.queued then offerCapture n e now (i.filter != 0)
      (handOff n e now { seen with capture := next changed }) else
        handOff n e now { seen with capture := next changed } at captured
    rw [notFiltered] at captured
    obtain ⟨kept, lost⟩ := offerCapture_handOff (n := n) e now false { seen with capture := next changed }
    intro handed
    refine ⟨fun off => ?_, fun on room => ?_, fun on full => ?_⟩
    · rw [exec_eq, captured, off]
      rfl
    · rw [exec_eq, captured, on, if_pos rfl, kept room]
    · rw [exec_eq, captured, on, if_pos rfl, lost full]

end Sys2Proof.Machine
end

section
/-! Chapter Input Lines and the Capture Queue: filter runs and sample moments (R109, R111 to R113, R115 to R117). -/

-- Each lemma waits for the ones before it: elaborated side by side they hold a thread each.
set_option Elab.async false

namespace Sys2Proof.Machine

variable {s t u : State} {n : Fin 8} {level : Bool} {time : Time}

/-! ## One filtered input (R111) -/

/-- The run after a sample, in the fields of R111. -/
theorem runAfter_eq (i : Input) (level : Bool) (now : Time) : runAfter i level now =
    { i with
      sampled := level, candidate := level
      runCount := if level = i.candidate then min i.filter (i.runCount + 1) else 1
      runStart := if level = i.candidate then i.runStart else now } := by
  unfold runAfter
  by_cases same : level = i.candidate
  · simp only [same, if_true]
  · simp only [if_neg same]

/-- Until the run is complete at another level than the settled one, nothing but the run changes (R111). -/
theorem filterStep_runs (s : State) (n : Fin 8) (level : Bool)
    (runs : (runAfter s.capture.inputs[n] level s.timebase.time).runCount < s.capture.inputs[n].filter ∨
      level = s.capture.inputs[n].settled) :
    filterStep n level s = setInput n (runAfter s.capture.inputs[n] level s.timebase.time) s := by
  refine if_neg fun ⟨complete, differs⟩ => ?_
  rw [runAfter_eq] at runs complete differs
  obtain few | same := runs
  · exact absurd complete (Nat.not_le.2 few)
  · exact differs same

theorem filterStep_accepts (s : State) (n : Fin 8) (level : Bool)
    (complete : s.capture.inputs[n].filter ≤ (runAfter s.capture.inputs[n] level s.timebase.time).runCount)
    (differs : level ≠ s.capture.inputs[n].settled) :
    filterStep n level s = acceptChange n level (runAfter s.capture.inputs[n] level s.timebase.time).runStart
      (setInput n (runAfter s.capture.inputs[n] level s.timebase.time) s) := by
  have candidate : (runAfter s.capture.inputs[n] level s.timebase.time).candidate = level := by rw [runAfter_eq]
  have accepts : filterStep n level s =
      acceptChange n (runAfter s.capture.inputs[n] level s.timebase.time).candidate
        (runAfter s.capture.inputs[n] level s.timebase.time).runStart
        (setInput n (runAfter s.capture.inputs[n] level s.timebase.time) s) := by
    refine if_pos ⟨?_, ?_⟩
    · rw [runAfter_eq] at complete ⊢
      exact complete
    · rw [runAfter_eq]
      exact differs
  rw [accepts, candidate]

/-- The run's other fields are the input's. -/
theorem runAfter_fields (i : Input) (level : Bool) (now : Time) :
    (runAfter i level now).edge = i.edge ∧ (runAfter i level now).queued = i.queued ∧
      (runAfter i level now).filter = i.filter := by
  rw [runAfter_eq]
  exact ⟨rfl, rfl, rfl⟩

theorem filterStep_silent (s : State) (n : Fin 8) (level : Bool)
    (complete : s.capture.inputs[n].filter ≤ (runAfter s.capture.inputs[n] level s.timebase.time).runCount)
    (differs : level ≠ s.capture.inputs[n].settled) (closed : admits s.capture.inputs[n].edge (edgeTo level) = false) :
    filterStep n level s =
      setInput n { runAfter s.capture.inputs[n] level s.timebase.time with settled := level } s := by
  rw [filterStep_accepts s n level complete differs, acceptChange_silent]
  rw [(runAfter_fields _ _ _).1, closed]

theorem filterStep_captured (s : State) (n : Fin 8) (level : Bool)
    (complete : s.capture.inputs[n].filter ≤ (runAfter s.capture.inputs[n] level s.timebase.time).runCount)
    (differs : level ≠ s.capture.inputs[n].settled) (admitted : admits s.capture.inputs[n].edge (edgeTo level) = true) :
    filterStep n level s =
      if s.capture.inputs[n].queued then
        offerCapture n (edgeTo level) (runAfter s.capture.inputs[n] level s.timebase.time).runStart
          (s.capture.inputs[n].filter != 0)
          (handOff n (edgeTo level) (runAfter s.capture.inputs[n] level s.timebase.time).runStart
            (setInput n { runAfter s.capture.inputs[n] level s.timebase.time with settled := level } s))
      else handOff n (edgeTo level) (runAfter s.capture.inputs[n] level s.timebase.time).runStart
        (setInput n { runAfter s.capture.inputs[n] level s.timebase.time with settled := level } s) := by
  obtain ⟨edge, queued, filter⟩ := runAfter_fields s.capture.inputs[n] level s.timebase.time
  rw [filterStep_accepts s n level complete differs, acceptChange_captured (by rw [edge, admitted]), ← queued, ← filter]

/-- What the sample of one filtered input leaves, by its run and its edge (R111, R112, R116, R117). -/
theorem filterStep_spec (s : State) (n : Fin 8) (level : Bool) (filtered : s.capture.inputs[n].filter ≠ 0)
    (x : Input) (run : runAfter s.capture.inputs[n] level s.timebase.time = x)
    (e : Edge) (named : edgeTo level = e) :
    let i := s.capture.inputs[n]
    let next : Input → CaptureUnit := fun y => { s.capture with inputs := s.capture.inputs.set n y }
    let accepted : CaptureUnit := next { x with settled := level }
    (x.runCount < i.filter ∨ level = i.settled → filterStep n level s = { s with capture := next x }) ∧
    (x.runCount = i.filter → level ≠ i.settled → admits i.edge e = false →
      filterStep n level s = { s with capture := accepted }) ∧
    (x.runCount = i.filter → level ≠ i.settled → admits i.edge e = true →
      ∀ handed : State, handOff n e x.runStart { s with capture := accepted } = handed →
      (i.queued = false → filterStep n level s = handed) ∧
      (i.queued = true → s.capture.queue.length < 32 → filterStep n level s = { handed with capture :=
        { accepted with
          seq := s.capture.seq + 1
          queue := s.capture.queue ++ [{ seq := s.capture.seq, line := n, edge := e, time := x.runStart
                                         filtered := true }] } }) ∧
      (i.queued = true → 32 ≤ s.capture.queue.length → filterStep n level s = { handed with
        capture := { accepted with seq := s.capture.seq + 1, lost := min 255 (s.capture.lost + 1) }
        irq := { handed.irq with flags := { handed.irq.flags with capLost := true } } })) := by
  subst named run
  intro i next accepted
  let x := runAfter i level s.timebase.time
  refine ⟨filterStep_runs s n level, fun complete => filterStep_silent s n level complete.ge,
    fun complete differs admitted => ?_⟩
  have captured := filterStep_captured s n level complete.ge differs admitted
  have mark : (i.filter != 0) = true := bne_iff_ne.2 filtered
  change filterStep n level s = if i.queued then
      offerCapture n (edgeTo level) x.runStart (i.filter != 0)
        (handOff n (edgeTo level) x.runStart { s with capture := accepted })
    else handOff n (edgeTo level) x.runStart { s with capture := accepted } at captured
  rw [mark] at captured
  obtain ⟨kept, lost⟩ := offerCapture_handOff (n := n) (edgeTo level) x.runStart true { s with capture := accepted }
  rintro handed rfl
  refine ⟨fun off => ?_, fun on room => ?_, fun on full => ?_⟩
  · rw [captured, off]
    rfl
  · rw [captured, on, if_pos rfl, kept room]
  · rw [captured, on, if_pos rfl, lost full]

/-! ## A sample moment with one filtered input (R109) -/

/-- The sample of one input at a sample moment. -/
def momentStep (levels : BitVec 8) (t : State) (n : Fin 8) : State :=
  if isFiltered t.capture.inputs[n] then
    filterStep n (levels.getLsbD n.val) (setInputPin n (levels.getLsbD n.val) t)
  else t

theorem filterMoment_eq (levels : BitVec 8) (s : State) : filterMoment levels s =
    (List.finRange 8).foldl (momentStep levels) (withCapture { s.capture with samplePhase := 0 } s) := rfl

/-- Inputs that are not filtered take no sample. -/
theorem foldl_momentStep_of_none (levels : BitVec 8) (l : List (Fin 8))
    (none : ∀ m ∈ l, isFiltered t.capture.inputs[m] = false) : l.foldl (momentStep levels) t = t := by
  induction l with
  | nil => rfl
  | cons m l ih =>
    have first : momentStep levels t m = t := if_neg (ne_true_of_eq_false (none m List.mem_cons_self))
    rw [List.foldl_cons, first]
    exact ih fun k mem => none k (List.mem_cons_of_mem _ mem)

theorem offerCapture_inputs (n : Fin 8) (e : Edge) (time : Time) (filtered : Bool) (s : State) :
    (offerCapture n e time filtered s).capture.inputs = s.capture.inputs := by
  obtain ⟨-, eq⟩ | ⟨-, eq⟩ := offerCapture_cases n e time filtered s <;> rw [eq]

theorem acceptChange_inputs (n : Fin 8) (level : Bool) (time : Time) (s : State) :
    (acceptChange n level time s).capture.inputs =
      s.capture.inputs.set n { s.capture.inputs[n] with settled := level } := by
  unfold acceptChange
  dsimp only
  split
  · split
    · rw [offerCapture_inputs, handOff_capture]
      rfl
    · rw [handOff_capture]
      rfl
  · rfl

/-- The sample of an input leaves the others. -/
theorem filterStep_input {m : Fin 8} (other : m ≠ n) :
    (filterStep n level s).capture.inputs[m] = s.capture.inputs[m] := by
  have first (i : Input) : (setInput n i s).capture.inputs[m] = s.capture.inputs[m] :=
    (getElem_set_fin s.capture.inputs n m i).trans (if_neg other)
  unfold filterStep
  dsimp only
  split
  · simp only [acceptChange_inputs]
    exact (getElem_set_fin _ n m _).trans ((if_neg other).trans (first _))
  · exact first _

theorem filterMoment_of_one {levels : BitVec 8} (filtered : isFiltered s.capture.inputs[n] = true)
    (alone : ∀ m : Fin 8, m ≠ n → isFiltered s.capture.inputs[m] = false) :
    filterMoment levels s = filterStep n (levels.getLsbD n.val)
      (setInputPin n (levels.getLsbD n.val) (withCapture { s.capture with samplePhase := 0 } s)) := by
  obtain ⟨before, after, whole⟩ := List.append_of_mem (List.mem_finRange n)
  have apart := List.nodup_finRange 8
  rw [whole] at apart
  have notBefore : ∀ m ∈ before, m ≠ n := fun m mem same =>
    List.disjoint_of_nodup_append apart mem (same ▸ List.mem_cons_self)
  have notAfter : ∀ m ∈ after, m ≠ n := fun m mem same =>
    (List.nodup_cons.1 (List.nodup_append.1 apart).2.1).1 (same ▸ mem)
  rw [filterMoment_eq, whole, List.foldl_append, foldl_momentStep_of_none
    (t := withCapture { s.capture with samplePhase := 0 } s) levels before
      (fun m mem => alone m (notBefore m mem)), List.foldl_cons]
  have step : momentStep levels (withCapture { s.capture with samplePhase := 0 } s) n =
      filterStep n (levels.getLsbD n.val)
        (setInputPin n (levels.getLsbD n.val) (withCapture { s.capture with samplePhase := 0 } s)) := if_pos filtered
  rw [step]
  refine foldl_momentStep_of_none levels after fun m mem => ?_
  rw [filterStep_input (notAfter m mem)]
  exact alone m (notAfter m mem)

/-! ## A hand-over looks at neither the capture unit nor the pins nor CAP_LOST -/

/-- The state with another capture unit, other pins and another CAP_LOST. -/
def captureFrame (c : CaptureUnit) (p : Pins) (b : Bool) (s : State) : State :=
  { s with capture := c, pins := p, irq := { s.irq with flags := { s.irq.flags with capLost := b } } }

section
variable (c : CaptureUnit) (p : Pins) (b : Bool)

theorem tripRequest_captureFrame (g : Fin 4) (cause : Cause) (s : State) :
    tripRequest g cause (captureFrame c p b s) = captureFrame c p b (tripRequest g cause s) := by
  unfold tripRequest tripEntry
  dsimp only [captureFrame]
  split
  · split <;> rfl
  · rfl
  · rfl

theorem tripMask_captureFrame (mask : Nat) (cause : Cause) (s : State) :
    tripMask mask cause (captureFrame c p b s) = captureFrame c p b (tripMask mask cause s) := by
  refine List.foldl_hom (captureFrame c p b) fun t g => ?_
  split
  · exact tripRequest_captureFrame c p b g cause t
  · rfl

theorem offerReaction_captureFrame (r : PendingReaction) (s : State) :
    offerReaction r (captureFrame c p b s) = captureFrame c p b (offerReaction r s) := by
  by_cases room : s.reactions.fifo.length < Config.fifoCapacity
  · have plain : offerReaction r s = _ := if_pos room
    rw [plain]
    exact if_pos room
  · have plain : offerReaction r s = _ := if_neg room
    rw [plain]
    exact if_neg room

theorem compareRow_captureFrame (n : Fin 8) (e : Edge) (time : Time) (s : State) (k : Fin 16) :
    compareRow n e time (captureFrame c p b s) k = captureFrame c p b (compareRow n e time s k) := by
  unfold compareRow answerMatch
  dsimp only [captureFrame]
  split
  · split
    · exact tripMask_captureFrame c p b _ _ (setRow k _ s)
    · exact offerReaction_captureFrame c p b _ (setRow k _ s)
    · exact offerReaction_captureFrame c p b _ (setRow k _ s)
  · rfl

theorem handOff_captureFrame (n : Fin 8) (e : Edge) (time : Time) (s : State) :
    handOff n e time (captureFrame c p b s) = captureFrame c p b (handOff n e time s) :=
  List.foldl_hom (captureFrame c p b) fun t k => compareRow_captureFrame c p b n e time t k

end

/-! ## A sample moment with several filtered inputs (R113) -/

section
variable (levels : BitVec 8) (s : State)

/-- The run of an input after its sample of the moment. -/
def momentRun (n : Fin 8) : Input := { s.capture.inputs[n] with
  sampled := levels.getLsbD n.val, candidate := levels.getLsbD n.val
  runCount := if levels.getLsbD n.val = s.capture.inputs[n].candidate then
      min s.capture.inputs[n].filter (s.capture.inputs[n].runCount + 1) else 1
  runStart := if levels.getLsbD n.val = s.capture.inputs[n].candidate then s.capture.inputs[n].runStart
    else s.timebase.time }

/-- An input whose run is complete at another level than the settled one. -/
def momentSettles (n : Fin 8) : Bool :=
  isFiltered s.capture.inputs[n] && decide (s.capture.inputs[n].filter ≤ (momentRun levels s n).runCount) &&
    levels.getLsbD n.val != s.capture.inputs[n].settled

/-- An input that is captured at the moment. -/
def momentCaptures (n : Fin 8) : Bool :=
  momentSettles levels s n && admits s.capture.inputs[n].edge (edgeTo (levels.getLsbD n.val))

/-- What the moment leaves of an input. -/
def momentInput (n : Fin 8) : Input := { momentRun levels s n with
  settled := if momentSettles levels s n then levels.getLsbD n.val else s.capture.inputs[n].settled }

/-- The records of the captured inputs, in their order. -/
def momentRecords (captured : List (Fin 8)) : List Capture :=
  (captured.filter fun n => s.capture.inputs[n].queued).mapIdx fun k n =>
    { seq := s.capture.seq + BitVec.ofNat 8 k, line := n, edge := edgeTo (levels.getLsbD n.val)
      time := (momentRun levels s n).runStart, filtered := true }

/-- The hand-overs of the captured inputs, in their order. -/
def momentHanded (captured : List (Fin 8)) : State :=
  captured.foldl (fun u n => handOff n (edgeTo (levels.getLsbD n.val)) (momentRun levels s n).runStart u) s

/-- What the samples of the inputs `done` and the captures of the inputs `captured` leave. -/
structure Sampled (done captured : List (Fin 8)) (t : State) : Prop where
  inputs : ∀ n : Fin 8, t.capture.inputs[n] =
    if n ∈ done ∧ isFiltered s.capture.inputs[n] = true then momentInput levels s n else s.capture.inputs[n]
  pins : ∀ n : Fin 8, t.pins.inputs[n] =
    if n ∈ done ∧ isFiltered s.capture.inputs[n] = true then levels.getLsbD n.val else s.pins.inputs[n]
  queue : t.capture.queue =
    s.capture.queue ++ (momentRecords levels s captured).take (32 - s.capture.queue.length)
  seq : t.capture.seq = s.capture.seq + BitVec.ofNat 8 (momentRecords levels s captured).length
  lost : s.capture.lost ≤ 255 → t.capture.lost = min 255
    (s.capture.lost + ((momentRecords levels s captured).length - (32 - s.capture.queue.length)))
  capLost : t.irq.flags.capLost = (s.irq.flags.capLost ||
    decide (32 - s.capture.queue.length < (momentRecords levels s captured).length))
  phase : t.capture.samplePhase = 0
  settings : t.capture.filterInt = s.capture.filterInt ∧ t.capture.threshold = s.capture.threshold
  rest : t = captureFrame t.capture { s.pins with inputs := t.pins.inputs } t.irq.flags.capLost
    (momentHanded levels s captured)

end

section
variable {levels : BitVec 8} {done captured : List (Fin 8)}

theorem momentRun_eq (n : Fin 8) :
    momentRun levels s n = runAfter s.capture.inputs[n] (levels.getLsbD n.val) s.timebase.time :=
  (runAfter_eq _ _ _).symm

theorem sampled_start : Sampled levels s [] [] (withCapture { s.capture with samplePhase := 0 } s) where
  inputs n := (if_neg fun ⟨mem, _⟩ => nomatch mem).symm
  pins n := (if_neg fun ⟨mem, _⟩ => nomatch mem).symm
  queue := by
    rw [show momentRecords levels s [] = [] from rfl, List.take_nil, List.append_nil]
    rfl
  seq := (BitVec.add_zero _).symm
  lost small := by
    rw [show momentRecords levels s [] = [] from rfl, List.length_nil, Nat.zero_sub, Nat.add_zero]
    exact (Nat.min_eq_right small).symm
  capLost := (Bool.or_false _).symm
  phase := rfl
  settings := ⟨rfl, rfl⟩
  rest := rfl

theorem momentHanded_timebase (l : List (Fin 8)) : (momentHanded levels s l).timebase = s.timebase :=
  List.foldlRecOn l _ (motive := fun u : State => u.timebase = s.timebase) rfl fun _ same _ _ =>
    (handOff_timebase _ _ _ _).trans same

theorem Sampled.timebase_time (h : Sampled levels s done captured t) : t.timebase.time = s.timebase.time := by
  rw [h.rest]
  exact congrArg Timebase.time (momentHanded_timebase captured)

/-- The sample of a filtered input, its capture left to come. -/
theorem Sampled.take (h : Sampled levels s done captured t) (filtered : isFiltered s.capture.inputs[n] = true) :
    Sampled levels s (done ++ [n]) captured
      (setInput n (momentInput levels s n) (setInputPin n (levels.getLsbD n.val) t)) where
  inputs m := by
    refine (getElem_set_fin t.capture.inputs n m _).trans ?_
    by_cases same : m = n
    · subst same
      rw [if_pos rfl, if_pos ⟨List.mem_append_right _ List.mem_cons_self, filtered⟩]
    · rw [if_neg same, h.inputs m]
      simp only [List.mem_append, List.mem_singleton, same, or_false]
  pins m := by
    refine (getElem_set_fin t.pins.inputs n m _).trans ?_
    by_cases same : m = n
    · subst same
      rw [if_pos rfl, if_pos ⟨List.mem_append_right _ List.mem_cons_self, filtered⟩]
    · rw [if_neg same, h.pins m]
      simp only [List.mem_append, List.mem_singleton, same, or_false]
  queue := h.queue
  seq := h.seq
  lost := h.lost
  capLost := h.capLost
  phase := h.phase
  settings := h.settings
  rest := by
    have rest := h.rest
    generalize momentHanded levels s captured = handed at rest ⊢
    rw [rest]
    rfl

/-- An input that is not filtered takes no sample. -/
theorem Sampled.skip (h : Sampled levels s done captured t) (unfiltered : isFiltered s.capture.inputs[n] = false) :
    Sampled levels s (done ++ [n]) captured t := by
  have same (m : Fin 8) : (m ∈ done ++ [n] ∧ isFiltered s.capture.inputs[m] = true) ↔
      (m ∈ done ∧ isFiltered s.capture.inputs[m] = true) := by
    refine and_congr_left fun filtered => ?_
    have other : m ≠ n := fun eq => by
      subst eq
      exact absurd filtered (ne_true_of_eq_false unfiltered)
    simp only [List.mem_append, List.mem_singleton, other, or_false]
  exact { h with
    inputs := fun m => (h.inputs m).trans (if_congr (same m).symm rfl rfl)
    pins := fun m => (h.pins m).trans (if_congr (same m).symm rfl rfl) }

theorem momentHanded_concat (n : Fin 8) : momentHanded levels s (captured ++ [n]) =
    handOff n (edgeTo (levels.getLsbD n.val)) (momentRun levels s n).runStart (momentHanded levels s captured) := by
  unfold momentHanded
  rw [List.foldl_append, List.foldl_cons, List.foldl_nil]

/-- The hand-over of a captured input. -/
theorem rest_handOff (rest : t = captureFrame t.capture { s.pins with inputs := t.pins.inputs } t.irq.flags.capLost
      (momentHanded levels s captured)) (n : Fin 8) :
    handOff n (edgeTo (levels.getLsbD n.val)) (momentRun levels s n).runStart t =
      captureFrame t.capture { s.pins with inputs := t.pins.inputs } t.irq.flags.capLost
        (momentHanded levels s (captured ++ [n])) := by
  have moved := congrArg (handOff n (edgeTo (levels.getLsbD n.val)) (momentRun levels s n).runStart) rest
  have framed := handOff_captureFrame t.capture { s.pins with inputs := t.pins.inputs } t.irq.flags.capLost n
    (edgeTo (levels.getLsbD n.val)) (momentRun levels s n).runStart (momentHanded levels s captured)
  have one_more := momentHanded_concat (levels := levels) (s := s) (captured := captured) n
  exact moved.trans (framed.trans (congrArg _ one_more.symm))

theorem momentRecords_unqueued (unqueued : s.capture.inputs[n].queued = false) :
    momentRecords levels s (captured ++ [n]) = momentRecords levels s captured := by
  unfold momentRecords
  rw [List.filter_append]
  simp only [List.filter_cons, List.filter_nil, unqueued, Bool.false_eq_true, if_false, List.append_nil]

theorem momentRecords_queued (queued : s.capture.inputs[n].queued = true) :
    momentRecords levels s (captured ++ [n]) = momentRecords levels s captured ++
      [{ seq := s.capture.seq + BitVec.ofNat 8 (momentRecords levels s captured).length, line := n
         edge := edgeTo (levels.getLsbD n.val), time := (momentRun levels s n).runStart, filtered := true }] := by
  unfold momentRecords
  rw [List.filter_append]
  simp only [List.filter_cons, List.filter_nil, queued, if_true, List.mapIdx_concat, List.length_mapIdx]

/-- A captured input that is not queued. -/
theorem Sampled.hand (h : Sampled levels s done captured t) (unqueued : s.capture.inputs[n].queued = false) :
    Sampled levels s done (captured ++ [n])
      (handOff n (edgeTo (levels.getLsbD n.val)) (momentRun levels s n).runStart t) := by
  rw [rest_handOff h.rest n]
  exact {
    inputs := h.inputs
    pins := h.pins
    queue := by
      rw [momentRecords_unqueued unqueued]
      exact h.queue
    seq := by
      rw [momentRecords_unqueued unqueued]
      exact h.seq
    lost := by
      rw [momentRecords_unqueued unqueued]
      exact h.lost
    capLost := by
      rw [momentRecords_unqueued unqueued]
      exact h.capLost
    phase := h.phase
    settings := h.settings
    rest := rfl }

theorem take_concat {α : Type} (l : List α) (a : α) (room : Nat) :
    (l ++ [a]).take room = if l.length < room then l.take room ++ [a] else l.take room := by
  split
  · next fits => rw [List.take_of_length_le (by simpa using fits), List.take_of_length_le (Nat.le_of_lt fits)]
  · next full => exact List.take_append_of_le_length (Nat.le_of_not_lt full)

/-- A captured input that is queued. -/
theorem Sampled.offer (h : Sampled levels s done captured t) (queued : s.capture.inputs[n].queued = true) :
    Sampled levels s done (captured ++ [n])
      (offerCapture n (edgeTo (levels.getLsbD n.val)) (momentRun levels s n).runStart true
        (handOff n (edgeTo (levels.getLsbD n.val)) (momentRun levels s n).runStart t)) := by
  have records := momentRecords_queued (levels := levels) (captured := captured) queued
  have count : (momentRecords levels s (captured ++ [n])).length = (momentRecords levels s captured).length + 1 := by
    rw [records, List.length_append, List.length_singleton]
  have held : t.capture.queue.length =
      s.capture.queue.length + min (32 - s.capture.queue.length) (momentRecords levels s captured).length := by
    rw [h.queue, List.length_append, List.length_take]
  have seq : t.capture.seq + 1 = s.capture.seq + BitVec.ofNat 8 (momentRecords levels s (captured ++ [n])).length := by
    rw [h.seq, count, BitVec.ofNat_add, BitVec.add_assoc]
    rfl
  have lost := h.lost
  have capLost := h.capLost
  rw [rest_handOff h.rest n]
  obtain ⟨room, eq⟩ | ⟨full, eq⟩ := offerCapture_cases n (edgeTo (levels.getLsbD n.val))
    (momentRun levels s n).runStart true (captureFrame t.capture { s.pins with inputs := t.pins.inputs }
      t.irq.flags.capLost (momentHanded levels s (captured ++ [n])))
  · have fits : (momentRecords levels s captured).length < 32 - s.capture.queue.length := by
      change t.capture.queue.length < 32 at room
      omega
    rw [eq]
    exact {
      inputs := h.inputs
      pins := h.pins
      queue := by
        rw [records, take_concat, if_pos fits, ← List.append_assoc, ← h.queue, ← h.seq]
        rfl
      seq := seq
      lost := fun small => by
        rw [count]
        exact (lost small).trans (by omega)
      capLost := by
        rw [count, decide_eq_false (by omega)]
        rw [decide_eq_false (by omega)] at capLost
        exact capLost
      phase := h.phase
      settings := h.settings
      rest := rfl }
  · have past : 32 - s.capture.queue.length ≤ (momentRecords levels s captured).length := by
      change 32 ≤ t.capture.queue.length at full
      omega
    rw [eq]
    exact {
      inputs := h.inputs
      pins := h.pins
      queue := by
        rw [records, take_concat, if_neg (Nat.not_lt.2 past)]
        exact h.queue
      seq := seq
      lost := fun small => by
        rw [count]
        have before := lost small
        change min 255 (t.capture.lost + 1) = _
        omega
      capLost := by
        rw [count, decide_eq_true (by omega), Bool.or_true]
      phase := h.phase
      settings := h.settings
      rest := rfl }

theorem momentInput_of_not (pending : momentSettles levels s n = false) :
    momentInput levels s n = momentRun levels s n := by
  unfold momentInput
  rw [pending]
  rfl

theorem momentInput_of_settles (settles : momentSettles levels s n = true) :
    momentInput levels s n = { momentRun levels s n with settled := levels.getLsbD n.val } := by
  unfold momentInput
  rw [settles]
  rfl

theorem momentSettles_iff (filtered : isFiltered s.capture.inputs[n] = true) : momentSettles levels s n = true ↔
    s.capture.inputs[n].filter ≤ (momentRun levels s n).runCount ∧
      levels.getLsbD n.val ≠ s.capture.inputs[n].settled := by
  unfold momentSettles
  rw [filtered, Bool.true_and, Bool.and_eq_true, decide_eq_true_iff, bne_iff_ne]

/-- The sample of one input takes it to the inputs done, and to the captured ones where it is captured. -/
theorem Sampled.step (h : Sampled levels s done captured t) (fresh : n ∉ done) :
    Sampled levels s (done ++ [n]) (captured ++ [n].filter (momentCaptures levels s)) (momentStep levels t n) := by
  have old : t.capture.inputs[n] = s.capture.inputs[n] := (h.inputs n).trans (if_neg fun ⟨mem, _⟩ => fresh mem)
  have run : runAfter t.capture.inputs[n] (levels.getLsbD n.val) t.timebase.time = momentRun levels s n := by
    rw [old, h.timebase_time, momentRun_eq]
  by_cases filtered : isFiltered s.capture.inputs[n] = true
  case neg =>
    have silent : momentCaptures levels s n = false := by
      unfold momentCaptures momentSettles
      rw [eq_false_of_ne_true filtered]
      rfl
    have stands : momentStep levels t n = t := if_neg (by rw [old]; exact filtered)
    rw [stands, List.filter_cons_of_neg (ne_true_of_eq_false silent), List.filter_nil, List.append_nil]
    exact h.skip (eq_false_of_ne_true filtered)
  have sample : momentStep levels t n =
      filterStep n (levels.getLsbD n.val) (setInputPin n (levels.getLsbD n.val) t) :=
    if_pos (by rw [old]; exact filtered)
  have taken := h.take filtered
  have settles := momentSettles_iff (levels := levels) filtered
  have complete (done : momentSettles levels s n = true) : t.capture.inputs[n].filter ≤
      (runAfter t.capture.inputs[n] (levels.getLsbD n.val) t.timebase.time).runCount := by
    rw [run, old]
    exact (settles.1 done).1
  have differs (done : momentSettles levels s n = true) : levels.getLsbD n.val ≠ t.capture.inputs[n].settled := by
    rw [old]
    exact (settles.1 done).2
  rw [sample]
  by_cases settled : momentSettles levels s n = true
  case neg =>
    have silent : momentCaptures levels s n = false := by
      unfold momentCaptures
      rw [eq_false_of_ne_true settled]
      rfl
    have runs := filterStep_runs (setInputPin n (levels.getLsbD n.val) t) n (levels.getLsbD n.val) (by
      change (runAfter t.capture.inputs[n] _ t.timebase.time).runCount < t.capture.inputs[n].filter ∨
        _ = t.capture.inputs[n].settled
      rw [run, old]
      by_contra neither
      rw [not_or, Nat.not_lt] at neither
      exact settled (settles.2 neither))
    change _ = setInput n (runAfter t.capture.inputs[n] _ t.timebase.time) _ at runs
    rw [run, ← momentInput_of_not (eq_false_of_ne_true settled)] at runs
    rw [runs, List.filter_cons_of_neg (ne_true_of_eq_false silent), List.filter_nil, List.append_nil]
    exact taken
  rw [momentInput_of_settles settled, ← run] at taken
  by_cases admitted : admits s.capture.inputs[n].edge (edgeTo (levels.getLsbD n.val)) = true
  case neg =>
    have silent : momentCaptures levels s n = false := by
      unfold momentCaptures
      rw [eq_false_of_ne_true admitted, Bool.and_false]
    rw [List.filter_cons_of_neg (ne_true_of_eq_false silent), List.filter_nil, List.append_nil]
    have quiet := filterStep_silent (setInputPin n (levels.getLsbD n.val) t) n (levels.getLsbD n.val)
      (complete settled) (differs settled)
      ((congrArg (admits ·.edge _) old).trans (eq_false_of_ne_true admitted))
    rw [quiet]
    exact taken
  have captures : momentCaptures levels s n = true := by
    unfold momentCaptures
    rw [settled, admitted]
    rfl
  have caught := filterStep_captured (setInputPin n (levels.getLsbD n.val) t) n (levels.getLsbD n.val)
    (complete settled) (differs settled) ((congrArg (admits ·.edge _) old).trans admitted)
  rw [List.filter_cons_of_pos captures, List.filter_nil, caught]
  have filter : ((setInputPin n (levels.getLsbD n.val) t).capture.inputs[n].filter != 0) = true := by
    change (t.capture.inputs[n].filter != 0) = true
    rw [old]
    exact (Bool.and_eq_true_iff.1 filtered).2
  have queue : (setInputPin n (levels.getLsbD n.val) t).capture.inputs[n].queued = s.capture.inputs[n].queued :=
    congrArg Input.queued old
  have start : (runAfter (setInputPin n (levels.getLsbD n.val) t).capture.inputs[n] (levels.getLsbD n.val)
      (setInputPin n (levels.getLsbD n.val) t).timebase.time).runStart = (momentRun levels s n).runStart :=
    congrArg Input.runStart run
  rw [filter, queue, start]
  by_cases queued : s.capture.inputs[n].queued = true
  · rw [if_pos queued]
    exact taken.offer queued
  · rw [if_neg queued]
    exact taken.hand (eq_false_of_ne_true queued)

theorem Sampled.foldl (l : List (Fin 8)) (h : Sampled levels s done (done.filter (momentCaptures levels s)) t)
    (distinct : (done ++ l).Nodup) : Sampled levels s (done ++ l) ((done ++ l).filter (momentCaptures levels s))
      (l.foldl (momentStep levels) t) := by
  induction l generalizing done t with
  | nil => rwa [List.append_nil]
  | cons n l ih =>
    have fresh : n ∉ done := fun mem => List.disjoint_of_nodup_append distinct mem List.mem_cons_self
    have next := h.step fresh
    rw [← List.filter_append] at next
    have whole : done ++ n :: l = done ++ [n] ++ l := by rw [List.append_assoc, List.singleton_append]
    rw [whole] at distinct ⊢
    exact ih next distinct

theorem sampled_filterMoment (levels : BitVec 8) (s : State) : Sampled levels s (List.finRange 8)
    ((List.finRange 8).filter (momentCaptures levels s)) (filterMoment levels s) :=
  Sampled.foldl (done := []) (List.finRange 8) sampled_start (List.nodup_finRange 8)

end

/-- Settles O52: one filtered input by the three outcomes of its sample; several by what the samples already
done leave, input by input. -/
theorem filterRunsSettleTheInput : Obligations.FilterRunsSettleTheInput := by
  unfold Obligations.FilterRunsSettleTheInput
  refine ⟨?_, ?_, ?_⟩
  · intro s n levels i level same enable two eight bound alone x x_eq seen next
    have unequal : i.filter ≠ 0 := by omega
    have filtered : isFiltered s.capture.inputs[n] = true :=
      Bool.and_eq_true_iff.2 ⟨enable, bne_iff_ne.2 unequal⟩
    have moment := filterMoment_of_one (levels := levels) filtered alone
    obtain ⟨runs, silent, captured⟩ := filterStep_spec
      (setInputPin n (levels.getLsbD n.val) (withCapture { s.capture with samplePhase := 0 } s)) n
      (levels.getLsbD n.val) unequal x ((runAfter_eq i level s.timebase.time).trans x_eq.symm)
      (if level then .rise else .fall) rfl
    refine ⟨fun few => congrArg Host.Outcome.next (moment.trans (runs few)),
      fun complete differs closed => congrArg Host.Outcome.next (moment.trans (silent complete differs closed)),
      fun complete differs admitted => ?_⟩
    intro handed
    obtain ⟨unqueued, kept, lost⟩ := captured complete differs admitted handed rfl
    exact ⟨fun off => congrArg Host.Outcome.next (moment.trans (unqueued off)),
      fun on room => congrArg Host.Outcome.next (moment.trans (kept on room)),
      fun on full => congrArg Host.Outcome.next (moment.trans (lost on full))⟩
  · intro s levels old level edge filtered run settles captured records room handed
    have moment := sampled_filterMoment levels s
    have captures : captured = (List.finRange 8).filter (momentCaptures levels s) :=
      congrArg (List.filter · (List.finRange 8)) (funext fun _ => rfl)
    have offered : records = momentRecords levels s captured :=
      congrArg (List.mapIdx · (captured.filter fun n => s.capture.inputs[n].queued))
        (funext fun _ => funext fun _ => rfl)
    have delivered : handed = momentHanded levels s captured := rfl
    rw [← captures] at moment
    obtain ⟨inputs, pins, queue, seq, lost, capLost, phase, ⟨interval, threshold⟩, rest⟩ := moment
    rw [← offered] at queue seq lost capLost
    rw [← delivered] at rest
    simp only [List.mem_finRange, true_and] at inputs pins
    exact ⟨filterMoment levels s, rfl, inputs, queue, seq, lost, capLost, phase, interval, threshold, pins, rest⟩
  · intro s n level i enable two eight bound e x next accepted
    have unequal : i.filter ≠ 0 := by omega
    obtain ⟨runs, silent, captured⟩ :=
      filterStep_spec s n level unequal x (runAfter_eq i level s.timebase.time) e rfl
    refine ⟨runs, silent, fun complete differs admitted => ?_⟩
    intro handed
    exact captured complete differs admitted handed rfl

end Sys2Proof.Machine
end

section
/-! Chapter Claims and Service Order: a whole service, its requests, offers and notices made in the state before
its grant (R52, R53). The work of an agenda service reads neither what the grant changes nor what its end
changes, so that the two stand outside of it. -/

-- Each lemma waits for the ones before it: elaborated side by side they hold a thread each.
set_option Elab.async false

namespace Sys2Proof.Machine

variable {s t u : State} {a b : Agenda} {ks : List Task} {k : Task}

/-! ## What agenda work does not read -/

/-- The state with another arbiter and reaction unit, and with POOL_LOW set where `low` says so. -/
def besides (f : Arbiter → Arbiter) (g : ReactionUnit → ReactionUnit) (low : Bool) (s : State) : State :=
  { s with
    arbiter := f s.arbiter
    reactions := g s.reactions
    irq := { s.irq with flags := { s.irq.flags with poolLow := s.irq.flags.poolLow || low } } }

section
variable {f : Arbiter → Arbiter} {g : ReactionUnit → ReactionUnit} {low : Bool}

theorem request_besides (l : Fin 16) (r : Request) (s : State) :
    request l r (besides f g low s) = ((request l r s).1, besides f g low (request l r s).2) := by
  have other := request_congr (l := l) (r := r) (s := s) (t := besides f g low s) rfl rfl
  rw [other, request_eq_withLines l r s]
  rfl

theorem offerReport_besides (r : Report) (s : State) :
    offerReport r (besides f g low s) = besides f g low (offerReport r s) := by
  by_cases room : s.reports.queue.length < Config.reportCapacity
  · have plain : offerReport r s = _ := if_pos room
    rw [plain]
    exact if_pos room
  · have plain : offerReport r s = _ := if_neg room
    rw [plain]
    exact if_neg room

theorem boundaryGone_besides (h : Handle) (s : State) :
    boundaryGone h (besides f g low s) = besides f g low (boundaryGone h s) := by
  by_cases watch : s.batch.watch = some h
  · have plain : boundaryGone h s = _ := if_pos watch
    rw [plain]
    exact if_pos watch
  · have plain : boundaryGone h s = _ := if_neg watch
    rw [plain]
    exact if_neg watch

theorem boundaryAct_besides (h : Handle) (s : State)
    (raise : s.batch.watch = some h → f { s.arbiter with apply := true } = { f s.arbiter with apply := true }) :
    boundaryAct h (besides f g low s) = besides f g low (boundaryAct h s) := by
  by_cases watch : s.batch.watch = some h
  · have plain : boundaryAct h s = _ := if_pos watch
    have framed : boundaryAct h (besides f g low s) = _ := if_pos watch
    rw [plain, framed]
    exact congrArg (fun x => State.mk s.timebase s.agenda x s.lines s.groups s.capture (g s.reactions)
      { s.batch with watch := none } s.reports s.port
      { s.irq with flags := { s.irq.flags with poolLow := s.irq.flags.poolLow || low } } s.pins s.dataOut s.pending)
      (raise watch).symm
  · have plain : boundaryAct h s = _ := if_neg watch
    rw [plain]
    exact if_neg watch

/-- POOL_LOW is set by an allocation that leaves fewer slots free than the threshold (R23). -/
theorem runTask_allocated (free : Nat) (s : State) :
    (runTask (.allocated free) s).1 = besides id id (decide (free < s.agenda.poolLow)) s := by
  by_cases low : free < s.agenda.poolLow
  · rw [decide_eq_true low]
    refine (if_pos low).trans ?_
    unfold besides
    rw [Bool.or_true]
    rfl
  · rw [decide_eq_false low]
    refine (if_neg low).trans ?_
    unfold besides
    rw [Bool.or_false]
    rfl

theorem runTask_allocated_besides (free : Nat) (s : State) :
    (runTask (.allocated free) (besides f g low s)).1 = besides f g low (runTask (.allocated free) s).1 := by
  rw [runTask_allocated, runTask_allocated]
  unfold besides
  dsimp only [id]
  rw [Bool.or_right_comm]

/-- A task of agenda work is the same beside another arbiter and another reaction unit. -/
theorem runTask_besides (work : agendaTask k)
    (raise : ∀ h, s.batch.watch = some h →
      f { s.arbiter with apply := true } = { f s.arbiter with apply := true }) :
    runTask k (besides f g low s) = (besides f g low (runTask k s).1, (runTask k s).2) := by
  cases k with
  | request l r record =>
    have answers := request_besides (f := f) (g := g) (low := low) l r s
    change ((request l r (besides f g low s)).2, (record.map fun x => Task.offer { x with
      kind := actKind (request l r (besides f g low s)).1
        (request l r (besides f g low s)).2.groups[groupOf l].state x.kind }).toList) = _
    rw [answers]
    rfl
  | offer r => exact Prod.ext (offerReport_besides r s) rfl
  | allocated free => exact Prod.ext (runTask_allocated_besides free s) rfl
  | acted h => exact Prod.ext (boundaryAct_besides h s (raise h)) rfl
  | gone h => exact Prod.ext (boundaryGone_besides h s) rfl
  | purged | resetMoment | endBatch | complete => exact absurd work id

/-- The offer that a request brings is agenda work too. -/
theorem runTask_more_agendaTask (k : Task) (s : State) : ∀ m ∈ (runTask k s).2, agendaTask m := by
  obtain none | ⟨r, one⟩ := runTask_more k s
  · rw [none]
    exact fun _ mem => nomatch mem
  · rw [one]
    intro m mem
    rw [List.mem_singleton.1 mem]
    trivial

/-- What each task of agenda work makes beside a state, work makes beside it. -/
theorem runTasks_commute {F : State → State} {P : State → Prop}
    (keeps : ∀ k s, agendaTask k → P s → P (runTask k s).1)
    (commute : ∀ k s, agendaTask k → P s → runTask k (F s) = (F (runTask k s).1, (runTask k s).2))
    (work : ∀ k ∈ ks, agendaTask k) (p : P s) : runTasks ks (F s) = F (runTasks ks s) := by
  have offers : ∀ (ms : List Task) (u : State), (∀ m ∈ ms, agendaTask m) → P u →
      ms.foldl (fun v m => (runTask m v).1) (F u) = F (ms.foldl (fun v m => (runTask m v).1) u) ∧
      P (ms.foldl (fun v m => (runTask m v).1) u) := by
    intro ms
    induction ms with
    | nil => exact fun u _ p => ⟨rfl, p⟩
    | cons m ms ih =>
      intro u each p
      have first := each m List.mem_cons_self
      rw [List.foldl_cons, List.foldl_cons, commute m u first p]
      exact ih _ (fun k mem => each k (List.mem_cons_of_mem _ mem)) (keeps m u first p)
  induction ks generalizing s with
  | nil => rfl
  | cons k ks ih =>
    have first := work k List.mem_cons_self
    obtain ⟨same, after⟩ := offers _ _ (runTask_more_agendaTask k s) (keeps k s first p)
    rw [runTasks, runTasks, commute k s first p]
    dsimp only
    rw [same]
    exact ih (fun m mem => work m (List.mem_cons_of_mem _ mem)) after

theorem runTasks_besides (work : ∀ k ∈ ks, agendaTask k)
    (raise : ∀ x : Arbiter, f { x with apply := true } = { f x with apply := true }) (s : State) :
    runTasks ks (besides f g low s) = besides f g low (runTasks ks s) :=
  runTasks_commute (P := fun _ => True) (fun _ _ _ _ => trivial)
    (fun _ s task _ => runTask_besides task fun _ _ => raise s.arbiter) work trivial

/-- Agenda work that tells of no watched entry keeps the watch unset. -/
theorem runTask_unwatched (k : Task) (free : s.batch.watch = none) :
    (runTask k s).1.batch.watch = none := by
  cases watch : (runTask k s).1.batch.watch with
  | none => rfl
  | some h => exact absurd ((runTask_watch watch).1) (by rw [free]; exact nofun)

theorem runTasks_besides_unwatched (work : ∀ k ∈ ks, agendaTask k) (free : s.batch.watch = none) :
    runTasks ks (besides f g low s) = besides f g low (runTasks ks s) :=
  runTasks_commute (P := fun s => s.batch.watch = none) (fun k _ _ free => runTask_unwatched k free)
    (fun _ s task free => runTask_besides task fun h watch => absurd watch (by rw [free]; exact nofun)) work free

end

/-! ## The whole service -/

/-- The whole service of a granted claim, where the row stands for it. -/
theorem serviceRow_whole {c : Claim} {serves : Service → State → Bool} (next : nextClaim s = some c)
    (own : serves (serviceFor c s) s = true) :
    serviceRow .whole c serves s = finish (serviceFor c s) (granted c s) :=
  if_pos (grantable_iff.2 ⟨next, own⟩)

theorem finish_serviceFor {c : Claim} (work : plan (takenBy c s) s = (a, ks)) :
    finish (serviceFor c s) (granted c s) =
      withArbiter { (runTasks ks (granted c s)).arbiter with activity := none }
        (publish a (runTasks ks (granted c s))) := by
  have todo : (serviceFor c s).todo = ks := congrArg Prod.snd work
  have after : (serviceFor c s).after = a := congrArg Prod.fst work
  unfold finish endService
  rw [todo, after]

theorem besides_quiet (f : Arbiter → Arbiter) (g : ReactionUnit → ReactionUnit) (s : State) :
    besides f g false s = { s with arbiter := f s.arbiter, reactions := g s.reactions } := by
  unfold besides
  rw [Bool.or_false]

/-- The agenda IDLE (R53). -/
def idle (s : State) : State := withArbiter { s.arbiter with activity := none } s

/-- The whole service of the expiry claim (R36). -/
theorem serviceRow_expiry (next : nextClaim s = some .expiry)
    (work : expiryPlan s.timebase.time s.agenda = (a, ks)) (tasks : ∀ k ∈ ks, agendaTask k) :
    serviceRow .whole .expiry anyService s = idle (publish a (runTasks ks s)) := by
  rw [serviceRow_whole next rfl, finish_serviceFor (c := .expiry) work]
  have grant := besides_quiet (fun x => { x with activity := some (serviceFor .expiry s) }) id s
  change _ = granted .expiry s at grant
  rw [← grant, runTasks_besides tasks (fun _ => rfl), besides_quiet]
  rfl

/-- The whole service of the oldest reaction record (R57). -/
theorem serviceRow_reaction {r : PendingReaction} {more : List PendingReaction} {serves : Service → State → Bool}
    (next : nextClaim s = some .reaction) (fifo : s.reactions.fifo = r :: more)
    (own : serves (serviceFor .reaction s) s = true)
    (work : reactionPlan (some r) s.timebase.time s.agenda = (a, ks)) (tasks : ∀ k ∈ ks, agendaTask k) :
    serviceRow .whole .reaction serves s =
      { idle (publish a (runTasks ks s)) with
        reactions := { (runTasks ks s).reactions with fifo := (runTasks ks s).reactions.fifo.tail } } := by
  have oldest : (takenBy .reaction s).record = some r := congrArg List.head? fifo
  have planned : plan (takenBy .reaction s) s = (a, ks) := by
    rw [← work, ← oldest]
    rfl
  rw [serviceRow_whole next own, finish_serviceFor planned]
  have grant := besides_quiet (fun x => { x with activity := some (serviceFor .reaction s) })
    (fun x => { x with fifo := x.fifo.tail }) s
  change _ = granted .reaction s at grant
  rw [← grant, runTasks_besides tasks (fun _ => rfl), besides_quiet]
  rfl

/-- The whole service of a group's purge claim (R48, R55). -/
theorem serviceRow_purge {g : Fin 4} {n : Nat} (next : nextClaim s = some (.purge g))
    (work : purgeGroup g s.timebase.time s.agenda = (a, ks ++ [.purged g n])) (tasks : ∀ k ∈ ks, agendaTask k) :
    serviceRow .whole (.purge g) anyService s =
      { idle (publish a (runTasks ks s)) with
        groups := (runTasks ks s).groups.set g
          { (runTasks ks s).groups[g] with lastPurgeCount := n, purgePending := false }
        arbiter := { (runTasks ks s).arbiter with
          purge := (runTasks ks s).arbiter.purge.set g false, activity := none } } := by
  rw [serviceRow_whole next rfl, finish_serviceFor (c := .purge g) work, runTasks_append]
  have grant := besides_quiet
    (fun x => { x with purge := x.purge.set g false, activity := some (serviceFor (.purge g) s) }) id s
  change _ = granted (.purge g) s at grant
  rw [← grant, runTasks_besides tasks (fun _ => rfl), besides_quiet]
  rfl

/-- The whole service of the host's command, which ends with its completion (R53, R58, R175). -/
theorem serviceRow_host {code : Word} {result : ResultCode} {words : List Word} (grant : hostGranted code s)
    (work : hostPlan s.port s.agenda.reserve s.timebase.time s.agenda = (a, ks ++ [.complete result words]))
    (tasks : ∀ k ∈ ks, agendaTask k) :
    serviceRow .whole .host (servesCommand code) s =
      posted result words (hostServed (publish a (runTasks ks s))) := by
  rw [serviceRow_whole_of_hostGranted grant, finish_serviceFor (c := .host) work, runTasks_append]
  have grant := besides_quiet (fun x => { x with host := false, activity := some (serviceFor .host s) }) id s
  change _ = granted .host s at grant
  rw [← grant, runTasks_besides tasks (fun _ => rfl), besides_quiet]
  rfl

/-- The whole service of the apply claim, whose other work does not read what the grant changes (R150). -/
theorem serviceRow_apply {e : BatchEnding} (next : nextClaim s = some .apply)
    (work : applyBatch s.batch.staging s.agenda.reserve s.timebase.time s.agenda = (a, ks ++ [.endBatch e]))
    (apart : ∀ f : Arbiter → Arbiter, runTasks ks (besides f id false s) = besides f id false (runTasks ks s)) :
    serviceRow .whole .apply anyService s =
      { endBatch e (publish a (runTasks ks s)) with
        arbiter := { (runTasks ks s).arbiter with apply := false, activity := none } } := by
  rw [serviceRow_whole next rfl, finish_serviceFor (c := .apply) work, runTasks_append]
  have grant := besides_quiet
    (fun x => { x with apply := false, activity := some (serviceFor .apply s) }) id s
  change _ = granted .apply s at grant
  rw [← grant, apart, besides_quiet]
  rfl

/-! ## The agenda that work leaves -/

/-- Agenda work leaves RESERVE and the threshold of POOL_LOW (R22, R23). -/
theorem Reworked.registers {V : Insertion → Prop} (h : Reworked V ks a b) :
    b.reserve = a.reserve ∧ b.poolLow = a.poolLow := by
  induction h with
  | same => exact ⟨rfl, rfl⟩
  | inserted ks valid alloc =>
    obtain ⟨slot, rest, -, -, rfl⟩ := allocate_cases alloc
    exact ⟨rfl, rfl⟩
  | returned ks alloc =>
    obtain ⟨slot, rest, -, -, rfl⟩ := allocate_cases alloc
    exact ⟨rfl, rfl⟩
  | replaced | ended | removed | reset => exact ⟨rfl, rfl⟩
  | andThen _ _ first second =>
    obtain ⟨reserve, poolLow⟩ := first
    obtain ⟨reserve', poolLow'⟩ := second
    exact ⟨reserve'.trans reserve, poolLow'.trans poolLow⟩

/-- The agenda that is published is the one the work leaves. -/
theorem publish_eq (reserve : a.reserve = s.agenda.reserve) (poolLow : a.poolLow = s.agenda.poolLow) :
    publish a s = withAgenda a s := by
  obtain ⟨list, free, gens, _, _⟩ := a
  subst reserve poolLow
  rfl

end Sys2Proof.Machine
end

section
/-! Chapter The Agenda: the services of HEAD, QUERY, INSERT and ENGINE_RESET (R37, R38, R46, R47, R49). -/

-- Each lemma waits for the ones before it: elaborated side by side they hold a thread each.
set_option Elab.async false

namespace Sys2Proof.Machine

variable {s t u : State} {a b : Agenda} {ks : List Task} {e : Entry}

/-! ## The host claim's service by the code in CMD (R58) -/

section
variable {port : CommandPort} {reserve : Nat} {now : Time}

theorem hostPlan_insert (cmd : port.cmd = 0x01) :
    hostPlan port reserve now a = insertPlan port.params reserve now a := by
  unfold hostPlan
  rw [cmd]
  rfl

theorem hostPlan_cancel (cmd : port.cmd = 0x02) : hostPlan port reserve now a = cancelPlan port.params now a := by
  unfold hostPlan
  rw [cmd]
  rfl

theorem hostPlan_retime (cmd : port.cmd = 0x03) : hostPlan port reserve now a = retimePlan port.params now a := by
  unfold hostPlan
  rw [cmd]
  rfl

theorem hostPlan_cancelTag (cmd : port.cmd = 0x04) :
    hostPlan port reserve now a = cancelTagPlan port.params now a := by
  unfold hostPlan
  rw [cmd]
  rfl

theorem hostPlan_query (cmd : port.cmd = 0x05) : hostPlan port reserve now a = queryPlan port.params a := by
  unfold hostPlan
  rw [cmd]
  rfl

theorem hostPlan_head (cmd : port.cmd = 0x06) : hostPlan port reserve now a = headPlan a := by
  unfold hostPlan
  rw [cmd]
  rfl

end

/-- A service that only answers posts its answer. -/
theorem serviceRow_answers {code : Word} {result : ResultCode} {words : List Word} (grant : hostGranted code s)
    (work : hostPlan s.port s.agenda.reserve s.timebase.time s.agenda = answer result words s.agenda) :
    Host.Outcome.next (serviceRow .whole .host (servesCommand code) s) =
      (.next (posted result words (hostServed s)) : Result) :=
  congrArg Host.Outcome.next (serviceRow_host (ks := []) grant work fun _ mem => nomatch mem)

/-! ## HEAD and QUERY (R46, R47) -/

theorem fieldWord_zero (x : Nat) : fieldWord x 0 = BitVec.ofNat 16 x := by
  refine BitVec.eq_of_toNat_eq ?_
  simp [fieldWord]

theorem loHalf_ticks (n : Nat) : loHalf (ticks n) = BitVec.ofNat 16 (n % 65536) := by
  refine BitVec.eq_of_toNat_eq ?_
  rw [loHalf_toNat]
  simp only [ticks, BitVec.toNat_ofNat]
  omega

theorem hiHalf_ticks (n : Nat) : hiHalf (ticks n) = BitVec.ofNat 16 (n / 65536) := by
  refine BitVec.eq_of_toNat_eq ?_
  rw [hiHalf_toNat]
  simp only [ticks, BitVec.toNat_ofNat]
  omega

/-- The words of part 1 of a query (R183, R201). -/
theorem queryWords_one (e : Entry) : queryWords e 1 =
    [handleWord e.handle, loHalf e.anchor, hiHalf e.anchor,
      BitVec.ofNat 16 (originCode e.origin), BitVec.ofNat 16 (periodOf e.repetition % 65536),
      BitVec.ofNat 16 (periodOf e.repetition / 65536), 0, 0] := by
  rw [← fieldWord_zero, ← loHalf_ticks, ← hiHalf_ticks]
  rfl

/-- The control word of an entry, with its phase, its period and its count above it (R201). -/
theorem toNat_queryControl (e : Entry) : (queryControl e).toNat =
    controlNumber (((jobLine e.job).map Fin.val).getD 0) (actionCode (jobAction e.job))
      (lateCode e.late) (optionCode e.option) +
    1024 * (if inReturn e.job then 1 else 0) + 2048 * (if hasPeriod e.repetition then 1 else 0) +
    4096 * (if hasCount e.repetition then 1 else 0) := by
  have line : ((jobLine e.job).map Fin.val).getD 0 < 2 ^ 4 := by
    cases jobLine e.job with
    | none => decide
    | some l => exact l.isLt
  exact (((((((holdsBelow_fieldWord (len := 4) line).field 3 (actionCode_lt (jobAction e.job))).field 1
    (lateCode_lt e.late)).field 2 (optionCode_lt e.option)).bit (inReturn e.job)).bit
      (hasPeriod e.repetition)).bit (hasCount e.repetition)).value

section
variable {p : Vector Word 8}

theorem headPlan_nil (empty : a.list = []) : headPlan a = answer .notPending [] a := by
  unfold headPlan
  rw [empty]

theorem headPlan_cons {rest : List Entry} (list : a.list = e :: rest) :
    headPlan a = answer .ok [handleWord e.handle, loHalf e.due, hiHalf e.due] a := by
  unfold headPlan
  rw [list]

theorem queryPlan_stale (stale : resolveIn (handleOfWord p[0]) a = .stale) : queryPlan p a = answer .stale [] a := by
  unfold queryPlan
  rw [stale]

theorem queryPlan_notPending (free : resolveIn (handleOfWord p[0]) a = .notPending) :
    queryPlan p a = answer .notPending [] a := by
  unfold queryPlan
  rw [free]

theorem queryPlan_pending (pending : resolveIn (handleOfWord p[0]) a = .pending e) :
    queryPlan p a = answer .ok (queryWords e p[1].toNat) a := by
  unfold queryPlan
  rw [pending]

end

/-- Settles O38: the work of HEAD and QUERY is an answer alone, which their services post. -/
theorem queryAndHeadOnlyRead : Obligations.QueryAndHeadOnlyRead := by
  unfold Obligations.QueryAndHeadOnlyRead
  refine ⟨fun s grant => ⟨fun empty => ?_, fun e rest list => ?_⟩, fun s grant => ?_, toNat_queryControl⟩
  · exact serviceRow_answers grant ((hostPlan_head grant.2).trans (headPlan_nil empty))
  · exact serviceRow_answers grant ((hostPlan_head grant.2).trans (headPlan_cons list))
  · intro h
    have plan := hostPlan_query (reserve := s.agenda.reserve) (now := s.timebase.time) (a := s.agenda) grant.2
    refine ⟨fun stale => serviceRow_answers grant (plan.trans (queryPlan_stale stale)),
      fun free => serviceRow_answers grant (plan.trans (queryPlan_notPending free)), fun e pending => ?_⟩
    have words := plan.trans (queryPlan_pending pending)
    refine ⟨fun part => ?_, fun part => ?_⟩ <;> rw [part] at words
    · exact serviceRow_answers grant words
    · rw [← queryWords_one]
      exact serviceRow_answers grant words

/-! ## INSERT (R37, R38) -/

theorem lateUnderDrop_iff {due now : Time} {p : LatePolicy} :
    lateUnderDrop due p now = true ↔ isLate due now = true ∧ p = .drop := by
  unfold lateUnderDrop
  rw [Bool.and_eq_true, decide_eq_true_iff]

/-- The handle that an allocation of this slot gives, under the slot's next generation (R20). -/
def newHandle (a : Agenda) (slot : BitVec 8) : Handle := { slot := slot, gen := a.gens[slot.toFin] + 1 }

/-- The agenda that the allocation of this slot leaves (R19, R20). -/
def allocated (a : Agenda) (slot : BitVec 8) (rest : List (BitVec 8)) : Agenda :=
  { a with free := rest, gens := a.gens.set slot.toFin (newHandle a slot).gen }

section
variable {slot : BitVec 8} {rest : List (BitVec 8)} {i : Insertion} {now : Time}

theorem allocate_cons (free : a.free = slot :: rest) : allocate a = some (newHandle a slot, allocated a slot rest) := by
  unfold allocate
  rw [free]
  rfl

theorem insertEntry_cons (o : Origin) (free : a.free = slot :: rest) : insertEntry i o now a =
    some (newHandle a slot, (placeOrAct (buildEntry i o (newHandle a slot)) now (allocated a slot rest)).1,
      .allocated rest.length :: (placeOrAct (buildEntry i o (newHandle a slot)) now (allocated a slot rest)).2) := by
  unfold insertEntry
  rw [allocate_cons free]
  rfl

theorem placeOrAct_late {now : Time} (late : isLate e.due now = true) : placeOrAct e now a = act e now a :=
  if_pos late

theorem placeOrAct_placed {now : Time} (future : isLate e.due now = false) : placeOrAct e now a = (place e a, []) :=
  if_neg (ne_true_of_eq_false future)

theorem slotCheck_one_empty {reserve : Nat} : slotCheck 1 reserve 0 = some .noSlot := rfl

theorem slotCheck_one_reserve {reserve n : Nat} (some_free : 1 ≤ n) (low : n < reserve + 1) :
    slotCheck 1 reserve n = some .reserve := by
  unfold slotCheck
  rw [if_neg (by omega), if_pos (by omega)]

theorem slotCheck_one_passes {reserve n : Nat} (enough : reserve + 1 ≤ n) : slotCheck 1 reserve n = none := by
  unfold slotCheck
  rw [if_neg (by omega), if_neg (by omega)]

/-- The work of an INSERT whose parameters name an insertion, by the cases of R37. -/
theorem insertPlan_cases {p : Vector Word 8} {reserve : Nat} (named : insertionOf p = some i) :
    (isLate i.due now = true ∧ i.late = .drop → insertPlan p reserve now a = answer .late [] a) ∧
    (¬ (isLate i.due now = true ∧ i.late = .drop) → a.free = [] →
      insertPlan p reserve now a = answer .noSlot [] a) ∧
    (¬ (isLate i.due now = true ∧ i.late = .drop) → a.free ≠ [] → a.free.length < reserve + 1 →
      insertPlan p reserve now a = answer .reserve [] a) ∧
    (∀ slot rest, ¬ (isLate i.due now = true ∧ i.late = .drop) → a.free = slot :: rest → reserve ≤ rest.length →
      let w := placeOrAct (buildEntry i .host (newHandle a slot)) now (allocated a slot rest)
      insertPlan p reserve now a = (w.1, .allocated rest.length :: w.2 ++
        [.complete .ok (handleWords (newHandle a slot) w.1)])) := by
  have kept (taken : ¬ (isLate i.due now = true ∧ i.late = .drop)) : ¬ lateUnderDrop i.due i.late now = true :=
    fun late => taken (lateUnderDrop_iff.1 late)
  unfold insertPlan
  rw [named]
  dsimp only
  refine ⟨fun late => if_pos (lateUnderDrop_iff.2 late), fun taken empty => ?_, fun taken some_free low => ?_,
    fun slot rest taken free enough => ?_⟩ <;> rw [if_neg (kept taken)]
  · rw [empty, List.length_nil, slotCheck_one_empty]
    rfl
  · rw [slotCheck_one_reserve (List.length_pos_iff.2 some_free) low]
    rfl
  · rw [slotCheck_one_passes (by rw [free, List.length_cons]; omega), insertEntry_cons _ free]
    rfl

end

/-- A handle names a pending entry where one stands in its slot, its generation the slot's (R21). -/
theorem isPending_of_mem {h : Handle} (gen : a.gens[h.slot.toFin] = h.gen) (mem : e ∈ a.list)
    (slot : e.handle.slot = h.slot) : isPending h a = true := by
  have found : (a.list.find? fun x => x.handle.slot == h.slot).isSome = true :=
    List.find?_isSome.2 ⟨e, mem, beq_iff_eq.2 slot⟩
  obtain ⟨x, eq⟩ := Option.isSome_iff_exists.1 found
  unfold isPending resolveIn
  rw [if_neg (not_not.2 gen), eq]

theorem handleWords_pending {h : Handle} (pending : isPending h a = true) : handleWords h a = [handleWord h, 1] := by
  unfold handleWords dispositionOf
  rw [if_pos pending]
  rfl

theorem handleWords_done {h : Handle} (gone : isPending h a = false) : handleWords h a = [handleWord h, 2] := by
  unfold handleWords dispositionOf
  rw [if_neg (ne_true_of_eq_false gone)]
  rfl

theorem allocated_gens (slot : BitVec 8) (rest : List (BitVec 8)) :
    (allocated a slot rest).gens[slot.toFin] = (newHandle a slot).gen :=
  (getElem_set_fin a.gens slot.toFin slot.toFin _).trans (if_pos rfl)

/-- An entry placed under its own slot's generation is pending. -/
theorem isPending_place (gen : a.gens[e.handle.slot.toFin] = e.handle.gen) : isPending e.handle (place e a) = true :=
  isPending_of_mem gen (mem_placeIn.2 (.inl rfl)) rfl

/-- Settles O33: each case of R37 answers alone, and a slot that is taken is placed or acts. -/
theorem insertServiceAnswers : Obligations.InsertServiceAnswers := by
  unfold Obligations.InsertServiceAnswers
  intro s i grant named late
  have plan := hostPlan_insert (reserve := s.agenda.reserve) (now := s.timebase.time) (a := s.agenda) grant.2
  obtain ⟨lateDrop, noSlot, reserve, passes⟩ := insertPlan_cases (a := s.agenda) (now := s.timebase.time)
    (reserve := s.agenda.reserve) named
  refine ⟨fun isLate drop => serviceRow_answers grant (plan.trans (lateDrop ⟨isLate, drop⟩)),
    fun taken empty => serviceRow_answers grant (plan.trans (noSlot taken empty)),
    fun taken some_free low => serviceRow_answers grant (plan.trans (reserve taken some_free low)),
    fun slot rest future free enough => ?_⟩
  · intro gen e
    have work := plan.trans (passes slot rest (fun drop => future drop.1) free enough)
    rw [placeOrAct_placed (eq_false_of_ne_true future)] at work
    have pending : isPending e.handle (place e (allocated s.agenda slot rest)) = true :=
      isPending_place (allocated_gens slot rest)
    have service := serviceRow_host (ks := [.allocated rest.length]) grant work fun k mem => by
      rw [List.mem_singleton.1 mem]
      trivial
    have words := handleWords_pending pending
    have low := runTask_allocated rest.length s
    refine congrArg Host.Outcome.next (service.trans ?_)
    change posted .ok (handleWords e.handle (place e (allocated s.agenda slot rest)))
      (hostServed (publish _ (runTask (.allocated rest.length) s).1)) = _
    rw [words, low]
    rfl

/-! ## ENGINE_RESET (R49) -/

theorem engineResetRow_eq (r : Row) : engineResetRow r =
    { r with state := (if r.state = .off then .off else .armed), lastMatch := none } := by
  unfold engineResetRow
  cases r.state <;> rfl

/-- Settles O39: the reset moment block by block, then the completion. -/
theorem engineResetServiceResetsTheBlocks : Obligations.EngineResetServiceResetsTheBlocks := by
  unfold Obligations.EngineResetServiceResetsTheBlocks
  intro s grant
  have after : (serviceFor .host s).after = engineResetAgenda s.agenda := by
    unfold serviceFor plan hostPlan
    dsimp only [takenBy]
    rw [grant.2]
    rfl
  refine ⟨_, exec_engineResetService_whole grant, rfl, ?_, rfl, fun g => ?_, rfl, rfl, fun l => ?_, fun p => ?_,
    fun g => ?_, rfl, fun k => ?_, rfl, rfl, rfl, rfl, rfl, ?_, rfl, rfl, rfl⟩
  · unfold endService
    rw [after]
    rfl
  · exact Vector.getElem_replicate ..
  · exact getElem_mapAll engineResetLine s.lines.lines l.val l.isLt
  · exact getElem_mapAll engineResetPair s.lines.pairs p.val p.isLt
  · exact getElem_mapAll engineResetGroup s.groups g.val g.isLt
  · exact (getElem_mapAll engineResetRow s.reactions.rows k.val k.isLt).trans (engineResetRow_eq _)
  · exact congrArg (fun res => { s.port with waiting := false, result := .ok, held := none, res := res })
      (writeRes_nil s.port.res)

end Sys2Proof.Machine
end

section
/-! Chapter The Agenda: what an act asks and tells, and what follows it (R27 to R35): the lines after its request,
its records, the next repetition or the end, and the notice of the boundary watch. -/

-- Each lemma waits for the ones before it: elaborated side by side they hold a thread each.
set_option Elab.async false

namespace Sys2Proof.Machine

variable {s t u : State} {a b : Agenda} {ks : List Task} {e x : Entry} {now : Time} {kind : ReportKind}

/-! ## Skipped repetitions (R32) -/

/-- From a late due, the leads of the times `n` ticks on: still late before the slip is made good, and then
counted from it (R11, R13). -/
theorem lead_of_late {due : Time} (late : isLate due now = true) (n : Nat) :
    (n < slip now due → isLate (due + ticks n) now = true) ∧
    (slip now due ≤ n → n < slip now due + 2147483648 → lead (due + ticks n) now = n - slip now due) := by
  have swap := lead_swap due now
  have behind := (isLate_iff due now).1 late
  have := due.isLt
  have := now.isLt
  change lead due now = 0 ∧ slip now due = 0 ∨ lead due now + slip now due = 4294967296 at swap
  rw [lead_eq] at swap behind
  rw [isLate_iff, lead_eq, BitVec.toNat_add, ticks, BitVec.toNat_ofNat]
  omega

theorem skipCount_bounds {due : Time} {p : Nat} (positive : 1 ≤ p) :
    slip now due ≤ skipCount due now p * p ∧ skipCount due now p * p < slip now due + p := by
  unfold skipCount
  have whole := Nat.div_add_mod (slip now due + p - 1) p
  have rest := Nat.mod_lt (slip now due + p - 1) positive
  rw [Nat.mul_comm] at whole
  omega

/-- The skip count of R32 leads to the first repetition that is not late. -/
theorem skipsTo_skipCount {due : Time} {p : Nat} (late : isLate due now = true) (positive : 1 ≤ p)
    (bounded : p ≤ 2147483647) : SkipsTo due p (skipCount due now p) now := by
  obtain ⟨least, most⟩ := skipCount_bounds (now := now) (due := due) positive
  refine ⟨fun j before => (lead_of_late late _).1 ?_, ?_⟩
  · have step : (j + 1) * p ≤ skipCount due now p * p := Nat.mul_le_mul_right p before
    rw [Nat.add_mul] at step
    omega
  · rw [(lead_of_late late _).2 least (by omega)]
    omega

theorem ticks_add (m n : Nat) : ticks (m + n) = ticks m + ticks n := BitVec.ofNat_add m n

theorem anchor_skip (anchor : Time) (k p : Nat) :
    anchor + ticks ((k + 1) * p) = anchor + ticks p + ticks (k * p) := by
  rw [Nat.add_mul, Nat.one_mul, Nat.add_comm, ticks_add, BitVec.add_assoc]

/-! ## The next repetition (R31, R32) -/

/-- The repetition of a period with this many remaining, or endless. -/
def repetitionLeft (period : Nat) : Option Nat → Repetition
  | none => .endless period
  | some n => .counted period n

theorem nextRepetition_onTime {p : Nat} {left : Option Nat} (onTime : isLate (e.anchor + ticks p) now = false) :
    nextRepetition e now p left = .again (atRepetition e (e.anchor + ticks p) (repetitionLeft p left)) := by
  refine (if_neg (ne_true_of_eq_false onTime)).trans ?_
  cases left <;> rfl

theorem nextRepetition_drop {p : Nat} {left : Option Nat} (late : isLate (e.anchor + ticks p) now = true)
    (policy : e.late = .drop) : nextRepetition e now p left = .dropped { e with due := e.anchor + ticks p } := by
  refine (if_pos late).trans ?_
  rw [policy]

theorem nextRepetition_skip_endless {p : Nat} (late : isLate (e.anchor + ticks p) now = true) (policy : e.late = .fire) :
    let k := skipCount (e.anchor + ticks p) now p
    nextRepetition e now p none =
      .again (atRepetition (addMissed e k) (e.anchor + ticks p + ticks (k * p)) (.endless p)) := by
  intro k
  refine (if_pos late).trans ?_
  rw [policy, ← anchor_skip]

theorem nextRepetition_skip_counted {p c : Nat} (late : isLate (e.anchor + ticks p) now = true)
    (policy : e.late = .fire) :
    let k := skipCount (e.anchor + ticks p) now p
    nextRepetition e now p (some c) =
      if k < c then .again (atRepetition (addMissed e k) (e.anchor + ticks p + ticks (k * p)) (.counted p (c - k)))
      else .over (addMissed e c) := by
  intro k
  refine (if_pos late).trans ?_
  rw [policy, ← anchor_skip]

/-! ## The records of an act (R33) -/

theorem asked_append (o : ReportOption) (rs qs : List Report) : asked o (rs ++ qs) = asked o rs ++ asked o qs := by
  cases o
  · rfl
  · exact List.filter_append ..
  · rfl

/-- The record of an act is offered where the option asks for it. -/
theorem recordOf_toList (e : Entry) (kind : ReportKind) (final : Bool) (due now : Time) :
    (recordOf e kind final due now).toList = asked e.option [recordNow e kind final due e.missed now] := by
  unfold recordOf asked
  cases e.option <;> cases final <;> rfl

/-- The kind of a record is the line unit's to give (R27). -/
theorem map_kind_recordOf (e : Entry) (first kind : ReportKind) (final : Bool) (due now : Time) :
    (recordOf e first final due now).map (fun r => { r with kind := kind }) = recordOf e kind final due now := by
  unfold recordOf
  split <;> rfl

/-! ## What follows an act (R31 to R34) -/

theorem following_oneShot (r : e.repetition = .oneShot) : following e now = .over e := by
  unfold following
  rw [r]

theorem following_endless {p : Nat} (r : e.repetition = .endless p) :
    following e now = nextRepetition e now p none := by
  unfold following
  rw [r]

theorem following_counted {p c : Nat} (r : e.repetition = .counted p c) :
    following e now = if c - 1 = 0 then .over e else nextRepetition e now p (some (c - 1)) := by
  unfold following
  rw [r]

/-- What can follow an act of an entry: it is placed at its next repetition, ends by the act, or ends as DROPPED. -/
inductive Ensues (e : Entry) : Following → Prop where
  | again (m : Nat) (due : Time) (r : Repetition) : Ensues e (.again (atRepetition { e with missed := m } due r))
  | ends (m : Nat) : Ensues e (.over { e with missed := m })
  | dropped (due : Time) : Ensues e (.dropped { e with due := due })

theorem ensues_nextRepetition (e : Entry) (now : Time) (p : Nat) (left : Option Nat) :
    Ensues e (nextRepetition e now p left) := by
  by_cases late : isLate (e.anchor + ticks p) now = true
  case neg =>
    rw [nextRepetition_onTime (eq_false_of_ne_true late)]
    exact .again e.missed _ _
  cases policy : e.late with
  | drop =>
    rw [nextRepetition_drop late policy]
    exact .dropped _
  | fire =>
    cases left with
    | none =>
      rw [nextRepetition_skip_endless late policy]
      exact .again _ _ _
    | some c =>
      rw [nextRepetition_skip_counted late policy]
      split
      · exact .again _ _ _
      · exact .ends _

theorem ensues_following (e : Entry) (now : Time) : Ensues e (following e now) := by
  cases r : e.repetition with
  | oneShot =>
    rw [following_oneShot r]
    exact .ends e.missed
  | endless p =>
    rw [following_endless r]
    exact ensues_nextRepetition e now p none
  | counted p c =>
    rw [following_counted r]
    split
    · exact .ends e.missed
    · exact ensues_nextRepetition e now p _

/-- The agenda that what follows an act leaves. -/
def followedAgenda (e : Entry) (a : Agenda) : Following → Agenda
  | .again x => place (afterReport x false) a
  | .over _ => ended e a
  | .dropped _ => ended e a

/-- The records of an act and of an ending of its own (R31 to R33). -/
def followedRecords (e : Entry) (kind : ReportKind) (now : Time) : Following → List Report
  | .again x => asked e.option [recordNow e kind false e.due x.missed now]
  | .over x => asked e.option [recordNow e kind true e.due x.missed now]
  | .dropped x => asked e.option
      [recordNow e kind false e.due e.missed now,
       recordNow e .dropped true x.due (if e.option = .every then 0 else e.missed) now]

theorem afterReport_atRepetition (e : Entry) (m : Nat) (due : Time) (r : Repetition) :
    afterReport (atRepetition { e with missed := m } due r) false = atNext e due r m := by
  unfold afterReport atRepetition atNext
  cases e.option <;> cases e.job <;> rfl

theorem place_ne_ended (e x : Entry) (a : Agenda) : place x a ≠ ended e a := fun same => by
  have lengths := congrArg (fun c => c.free.length) same
  change a.free.length = (a.free ++ [e.handle.slot]).length at lengths
  rw [List.length_append, List.length_singleton] at lengths
  omega

section
variable {m : Nat} {due : Time} {r : Repetition}

theorem followed_again (h : following e now = .again (atRepetition { e with missed := m } due r)) :
    followedAgenda e a (following e now) = { a with list := placeIn (atNext e due r m) a.list } ∧
      followedRecords e kind now (following e now) = asked e.option [recordNow e kind false e.due m now] := by
  rw [h]
  exact ⟨congrArg (fun x => place x a) (afterReport_atRepetition e m due r), rfl⟩

theorem followed_over (h : following e now = .over { e with missed := m }) :
    followedAgenda e a (following e now) = ended e a ∧
      followedRecords e kind now (following e now) = asked e.option [recordNow e kind true e.due m now] := by
  rw [h]
  exact ⟨rfl, rfl⟩

theorem followed_dropped (h : following e now = .dropped { e with due := due }) :
    followedAgenda e a (following e now) = ended e a ∧
      followedRecords e kind now (following e now) = asked e.option
        [recordNow e kind false e.due e.missed now,
         recordNow e .dropped true due (if e.option = .every then 0 else e.missed) now] := by
  rw [h]
  exact ⟨rfl, rfl⟩

end

/-- What follows an act is what R31 to R34 give. -/
theorem follows_followed (e : Entry) (kind : ReportKind) (now : Time) (a : Agenda) :
    Follows e kind now a (followedAgenda e a (following e now)) (followedRecords e kind now (following e now)) := by
  unfold Follows
  intro ends goesOn dropped
  refine ⟨fun r => followed_over (m := e.missed) (following_oneShot r),
    fun p r => followed_over (m := e.missed) (following_counted r), fun p r positive bounded => ?_,
    fun p c r many positive bounded => ?_⟩
  · intro next
    refine ⟨fun onTime => followed_again (m := e.missed) ((following_endless r).trans (nextRepetition_onTime onTime)),
      fun late policy => followed_dropped ((following_endless r).trans (nextRepetition_drop late policy)),
      fun late policy => ⟨_, skipsTo_skipCount late positive bounded,
        followed_again ((following_endless r).trans (nextRepetition_skip_endless late policy))⟩⟩
  · have counted : following e now = nextRepetition e now p (some (c - 1)) :=
      (following_counted r).trans (if_neg (by omega))
    intro next
    refine ⟨fun onTime => followed_again (m := e.missed) (counted.trans (nextRepetition_onTime onTime)),
      fun late policy => followed_dropped (counted.trans (nextRepetition_drop late policy)),
      fun late policy => ⟨_, skipsTo_skipCount late positive bounded, fun few => ?_, fun all => ?_⟩⟩
    · exact followed_again (counted.trans ((nextRepetition_skip_counted late policy).trans (if_pos few)))
    · exact followed_over
        (counted.trans ((nextRepetition_skip_counted late policy).trans (if_neg (Nat.not_lt.2 all))))

/-! ## Requests and offers: the lines and the report queue alone -/

/-- The lines may have changed, these records have been offered, and nothing else has changed. -/
structure Reported (rs : List Report) (s t : State) : Prop where
  frame : t = { s with
    lines := t.lines, reports := t.reports
    irq := { s.irq with flags := { s.irq.flags with rptLost := t.irq.flags.rptLost } } }
  records : Offered rs s t

theorem Reported.refl (s : State) : Reported [] s s := ⟨rfl, offered_nil rfl rfl⟩

theorem Reported.trans {rs qs : List Report} (h : Reported rs s t) (k : Reported qs t u) : Reported (rs ++ qs) s u := by
  refine ⟨?_, h.records.append k.records⟩
  have first := h.frame
  have second := k.frame
  rw [first] at second
  exact second

theorem reported_request (l : Fin 16) (r : Request) (s : State) : Reported [] s (request l r s).2 := by
  rw [request_eq_withLines]
  exact ⟨rfl, offered_nil rfl rfl⟩

theorem reported_offer (r : Report) (s : State) : Reported [r] s (offerReport r s) := by
  refine ⟨?_, offerReport_offered r s⟩
  obtain ⟨-, eq⟩ | ⟨-, eq⟩ := offerReport_cases r s <;> rw [eq]

/-! ## The request of an act and its record (R27, R28) -/

/-- An act asks for the request of its action, with its record, or for nothing of the line unit. -/
def askFor : Option (Fin 16 × Request) → Option Report → List Task
  | some (l, r) => askLine l r
  | none => askNothing

theorem slip_eq_zero {due : Time} : slip now due = 0 ↔ due = now := by
  refine (lead_eq_zero now due).trans eq_comm

theorem kindBySlip_eq (due now : Time) : kindBySlip due now = if due = now then .fired else .late :=
  if_congr slip_eq_zero rfl rfl

/-- The kind that the answer and the group's state give a record (R27, R28). -/
theorem kindOfAct_request {j : Job} {l : Fin 16} {r : Request} (asks : requestOf j = some (l, r)) (due : Time)
    (s : State) : kindOfAct j due s =
      actKind (request l r s).1 s.groups[groupOf l].state (kindBySlip due s.timebase.time) := by
  rw [actKind_eq, kindBySlip_eq]
  unfold kindOfAct
  generalize requestOf j = q at asks
  subst asks
  rfl

theorem kindOfAct_mark {j : Job} (asks : requestOf j = none) (due : Time) (s : State) :
    kindOfAct j due s = kindBySlip due s.timebase.time := by
  rw [kindBySlip_eq]
  unfold kindOfAct
  rw [asks]

theorem linesAfterAct_request {j : Job} {l : Fin 16} {r : Request} (asks : requestOf j = some (l, r)) (s : State) :
    linesAfterAct j s = (request l r s).2.lines := by
  unfold linesAfterAct
  rw [asks]

theorem linesAfterAct_mark {j : Job} (asks : requestOf j = none) (s : State) : linesAfterAct j s = s.lines := by
  unfold linesAfterAct
  rw [asks]

theorem runTasks_askLine_some (l : Fin 16) (r : Request) (x : Report) (s : State) :
    runTasks (askLine l r (some x)) s = offerReport { x with
      kind := actKind (request l r s).1 s.groups[groupOf l].state x.kind } (request l r s).2 := by
  have groups := congrArg (fun g => offerReport { x with
    kind := actKind (request l r s).1 g[groupOf l].state x.kind } (request l r s).2) (request_groups l r s)
  exact groups

/-- The request of an act changes the lines, and its record is offered with the kind that the answer and the
group's state give it (R27, R28, R33). -/
theorem runTasks_askFor (j : Job) (due : Time) (record : Option Report) (s : State)
    (kind : ∀ r ∈ record, r.kind = kindBySlip due s.timebase.time) :
    Reported (record.map fun r => { r with kind := kindOfAct j due s }).toList s
        (runTasks (askFor (requestOf j) record) s) ∧
      (runTasks (askFor (requestOf j) record) s).lines = linesAfterAct j s := by
  cases asks : requestOf j with
  | none =>
    rw [kindOfAct_mark asks, linesAfterAct_mark asks]
    cases record with
    | none => exact ⟨Reported.refl s, rfl⟩
    | some r =>
      have same : ({ r with kind := kindBySlip due s.timebase.time } : Report) = r :=
        congrArg (fun k => ({ r with kind := k } : Report)) (kind r rfl).symm
      refine ⟨?_, offerReport_lines r s⟩
      change Reported [{ r with kind := kindBySlip due s.timebase.time }] s (offerReport r s)
      rw [same]
      exact reported_offer r s
  | some lr =>
    obtain ⟨l, q⟩ := lr
    rw [kindOfAct_request asks, linesAfterAct_request asks]
    cases record with
    | none => exact ⟨reported_request l q s, rfl⟩
    | some r =>
      change Reported _ s (runTasks (askLine l q (some r)) s) ∧ (runTasks (askLine l q (some r)) s).lines = _
      rw [runTasks_askLine_some, kind r rfl]
      exact ⟨(reported_request l q s).trans (reported_offer _ _), offerReport_lines _ _⟩

/-- The request and the record of an act of an entry. -/
theorem runTasks_askFor_recordOf (e : Entry) (j : Job) (final : Bool) (due : Time) (s : State) :
    let u := runTasks (askFor (requestOf j)
      (recordOf e (kindBySlip due s.timebase.time) final due s.timebase.time)) s
    Reported (asked e.option [recordNow e (kindOfAct j due s) final due e.missed s.timebase.time]) s u ∧
      u.lines = linesAfterAct j s := by
  intro u
  have effect := runTasks_askFor j due (recordOf e (kindBySlip due s.timebase.time) final due s.timebase.time) s
    fun r mem => by
      unfold recordOf at mem
      split at mem
      · cases mem
        rfl
      · cases mem
  rw [map_kind_recordOf, recordOf_toList] at effect
  exact effect

/-- The record of an ending, with no request before it. -/
theorem runTasks_recordOf (e : Entry) (kind : ReportKind) (final : Bool) (due now : Time) (s : State) :
    let u := runTasks ((recordOf e kind final due now).map Task.offer).toList s
    Reported (asked e.option [recordNow e kind final due e.missed now]) s u ∧ u.lines = s.lines := by
  rw [← recordOf_toList]
  cases recordOf e kind final due now with
  | none => exact ⟨Reported.refl s, rfl⟩
  | some r => exact ⟨reported_offer r s, offerReport_lines r s⟩

theorem afterReport_false (e : Entry) :
    afterReport e false = { e with missed := if e.option = .every then 0 else e.missed } := by
  obtain ⟨_, _, _, _, _, _, option, _, _, _⟩ := e
  cases option <;> rfl

theorem recordNow_atRepetition (e : Entry) (m : Nat) (due' : Time) (r : Repetition) (kind : ReportKind) (final : Bool)
    (due : Time) (missed : Nat) (now : Time) :
    recordNow (atRepetition { e with missed := m } due' r) kind final due missed now =
      recordNow e kind final due missed now := by
  have line : jobLine (rearmedJob e.job) = jobLine e.job := by cases e.job <;> rfl
  unfold recordNow atRepetition
  rw [← line]

/-! ## An act and all that follows it (R27 to R35) -/

/-- The work of a settled act, by what follows it. -/
theorem settle_eq (e : Entry) (ask : Option Report → List Task) (counted : Bool) (now : Time) (a : Agenda) :
    (settle e ask counted e.due now a).1 = followedAgenda e a (following e now) := by
  unfold settle
  have ensues := ensues_following e now
  generalize following e now = f at ensues
  cases ensues <;> rfl

/-- A settled act: its request, its records, and the notice of a departure that was not told of. -/
theorem runTasks_settle (e : Entry) (j : Job) (counted : Bool) (a : Agenda) (s : State) :
    let w := settle e (askFor (requestOf j)) counted e.due s.timebase.time a
    ∃ u, Reported (followedRecords e (kindOfAct j e.due s) s.timebase.time (following e s.timebase.time)) s u ∧
      u.lines = linesAfterAct j s ∧
      (w.1 ≠ ended e a → runTasks w.2 s = u) ∧
      (w.1 = ended e a → runTasks w.2 s = runTasks (departure e.handle counted) u) := by
  unfold settle
  have ensues := ensues_following e s.timebase.time
  generalize following e s.timebase.time = f at ensues
  cases ensues with
  | again m due r =>
    obtain ⟨records, lines⟩ :=
      runTasks_askFor_recordOf (atRepetition { e with missed := m } due r) j false e.due s
    rw [recordNow_atRepetition] at records
    exact ⟨_, records, lines, fun _ => rfl, fun same => absurd same (place_ne_ended e _ a)⟩
  | ends m =>
    obtain ⟨records, lines⟩ := runTasks_askFor_recordOf { e with missed := m } j true e.due s
    exact ⟨_, records, lines, fun other => absurd rfl other, fun _ => runTasks_append _ _ s⟩
  | dropped due =>
    obtain ⟨records, lines⟩ := runTasks_askFor_recordOf { e with due := due } j false e.due s
    have ending := runTasks_recordOf (afterReport { e with due := due } false) .dropped true due s.timebase.time
      (runTasks (askFor (requestOf j)
        (recordOf { e with due := due } (kindBySlip e.due s.timebase.time) false e.due s.timebase.time)) s)
    obtain ⟨dropped, stands⟩ := ending
    have named : asked (afterReport { e with due := due } false).option [recordNow (afterReport { e with due := due } false)
        .dropped true due (afterReport { e with due := due } false).missed s.timebase.time] =
        asked e.option [recordNow e .dropped true due (if e.option = .every then 0 else e.missed) s.timebase.time] := by
      rw [afterReport_false]
      rfl
    rw [named] at dropped
    refine ⟨_, ?_, stands.trans lines, fun other => absurd rfl other, fun _ => ?_⟩
    · have both := records.trans dropped
      rw [← asked_append] at both
      exact both
    · exact (runTasks_append _ _ s).trans (congrArg _ (runTasks_append _ _ s))

end Sys2Proof.Machine
end

section
/-! Chapter The Agenda: acts in a service (R27 to R36, R39): the expiry service and what a late insertion does. -/

-- Each lemma waits for the ones before it: elaborated side by side they hold a thread each.
set_option Elab.async false

namespace Sys2Proof.Machine

variable {s t u v : State} {a b : Agenda} {ks : List Task} {e x : Entry} {rs : List Report} {h : Handle}

/-! ## What the tasks of an act can change (R53) -/

/-- The lines, the reports, the batch, its claim, RPT_LOST and BATCH_END may have changed, and nothing else. -/
def ActFrame (s v : State) : Prop := v = { s with
  lines := v.lines, reports := v.reports, batch := v.batch
  arbiter := { s.arbiter with apply := v.arbiter.apply }
  irq := { s.irq with flags := { s.irq.flags with
    rptLost := v.irq.flags.rptLost, batchEnd := v.irq.flags.batchEnd } } }

section
variable (frame : ActFrame s v)
include frame

theorem ActFrame.timebase : v.timebase = s.timebase := by rw [frame]
theorem ActFrame.groups : v.groups = s.groups := by rw [frame]
theorem ActFrame.capture : v.capture = s.capture := by rw [frame]
theorem ActFrame.pins : v.pins = s.pins := by rw [frame]
theorem ActFrame.reactions : v.reactions = s.reactions := by rw [frame]
theorem ActFrame.port : v.port = s.port := by rw [frame]
theorem ActFrame.cmdDone : v.irq.flags.cmdDone = s.irq.flags.cmdDone := by rw [frame]
theorem ActFrame.poolLow : v.irq.flags.poolLow = s.irq.flags.poolLow := by rw [frame]

end

theorem Reported.actFrame (k : Reported rs s u) : ActFrame s u := by
  have frame := k.frame
  unfold ActFrame
  rw [frame]

theorem boundaryAct_watched (watch : s.batch.watch = some h) : boundaryAct h s =
    { s with arbiter := { s.arbiter with apply := true }, batch := { s.batch with watch := none } } := if_pos watch

theorem boundaryAct_other (watch : s.batch.watch ≠ some h) : boundaryAct h s = s := if_neg watch

theorem boundaryGone_watched (watch : s.batch.watch = some h) : boundaryGone h s =
    { s with
      batch := abandonedBatch s.batch
      irq := { s.irq with flags := { s.irq.flags with batchEnd := true } } } := if_pos watch

theorem boundaryGone_other (watch : s.batch.watch ≠ some h) : boundaryGone h s = s := if_neg watch

theorem ActFrame.boundaryAct (frame : ActFrame s u) (h : Handle) : ActFrame s (boundaryAct h u) := by
  by_cases watch : u.batch.watch = some h
  · rw [boundaryAct_watched watch]
    unfold ActFrame at frame ⊢
    rw [frame]
  · rwa [boundaryAct_other watch]

theorem ActFrame.boundaryGone (frame : ActFrame s u) (h : Handle) : ActFrame s (boundaryGone h u) := by
  by_cases watch : u.batch.watch = some h
  · rw [boundaryGone_watched watch]
    unfold ActFrame at frame ⊢
    rw [frame]
  · rwa [boundaryGone_other watch]

theorem Reported.batch (k : Reported rs s u) : u.batch = s.batch := by
  rw [k.frame]

theorem Reported.arbiter (k : Reported rs s u) : u.arbiter = s.arbiter := by
  rw [k.frame]

theorem Reported.batchEnd (k : Reported rs s u) : u.irq.flags.batchEnd = s.irq.flags.batchEnd := by
  rw [k.frame]

theorem Reported.batchStands (k : Reported rs s u) : batchStands s u :=
  ⟨k.batch, congrArg Arbiter.apply k.arbiter, k.batchEnd⟩

/-- The notice of a boundary act, after requests and offers (R35). -/
theorem Reported.acted (k : Reported rs s u) (h : Handle) : BoundaryActed h s (boundaryAct h u) where
  watched watch := by
    rw [← k.batch] at watch
    rw [boundaryAct_watched watch, ← k.batch]
    exact ⟨rfl, rfl, k.batchEnd⟩
  notWatched watch := by
    rw [← k.batch] at watch
    rw [boundaryAct_other watch]
    exact k.batchStands

/-- The notice of a departure, after requests and offers (R35, R149). -/
theorem Reported.gone (k : Reported rs s u) (h : Handle) : BoundaryGone h s (boundaryGone h u) where
  watched watch := by
    rw [← k.batch] at watch
    rw [boundaryGone_watched watch, ← k.batch]
    exact ⟨rfl, congrArg Arbiter.apply k.arbiter, rfl⟩
  notWatched watch := by
    rw [← k.batch] at watch
    rw [boundaryGone_other watch]
    exact k.batchStands

theorem Offered.congr (k : Offered rs s u) (reports : v.reports = u.reports)
    (rptLost : v.irq.flags.rptLost = u.irq.flags.rptLost) : Offered rs s v where
  queue := by rw [reports]; exact k.queue
  lost small := by rw [reports]; exact k.lost small
  rptLost := rptLost.trans k.rptLost
  threshold := by rw [reports]; exact k.threshold

theorem boundaryAct_rptLost (h : Handle) (s : State) : (boundaryAct h s).irq.flags.rptLost = s.irq.flags.rptLost :=
  congrArg (fun q => q.flags.rptLost) (boundaryAct_irq h s)

theorem boundaryGone_rptLost (h : Handle) (s : State) : (boundaryGone h s).irq.flags.rptLost = s.irq.flags.rptLost := by
  by_cases watch : s.batch.watch = some h
  · rw [boundaryGone_watched watch]
  · rw [boundaryGone_other watch]

/-! ## An act by its job and phase -/

theorem act_counted (drives : ∀ l w p, e.job ≠ .pulse l w p) (now : Time) (a : Agenda) :
    act e now a = countedAct e.handle (settle e (askFor (requestOf e.job)) true e.due now a) := by
  unfold act
  cases job : e.job with
  | drive l r => rfl
  | mark => rfl
  | pulse l w p => exact absurd job (drives l w p)

theorem act_return {l : Fin 16} {w : Nat} (job : e.job = .pulse l w .returnAct) (now : Time) (a : Agenda) :
    act e now a = settle e (askFor (requestOf e.job)) false e.due now a := by
  unfold act
  rw [job]
  rfl

/-- A PULSE in RETURN, its missed count 0 where the record of its ASSERT is offered (R29, R33). -/
def inRet (e : Entry) (l : Fin 16) (w : Nat) : Entry :=
  { e with
    due := e.anchor + ticks w, job := .pulse l w .returnAct
    missed := if e.option = .every then 0 else e.missed }

theorem afterReport_movedToReturn (e : Entry) (l : Fin 16) (w : Nat) :
    afterReport (movedToReturn e l w) false = inRet e l w := afterReport_false _

theorem act_assert {l : Fin 16} {w : Nat} (job : e.job = .pulse l w .assertAct) (now : Time) (a : Agenda) :
    let asked := askFor (requestOf e.job)
      (recordOf (movedToReturn e l w) (kindBySlip e.due now) false e.due now)
    let back := settle (inRet e l w) (askFor (requestOf (inRet e l w).job)) true (inRet e l w).due now a
    act e now a = countedAct e.handle
      (if isLate (e.anchor + ticks w) now then (back.1, asked ++ back.2) else (place (inRet e l w) a, asked)) := by
  unfold act
  rw [job]
  dsimp only
  unfold assertAct
  dsimp only
  rw [afterReport_movedToReturn]
  rfl

/-! ## What the tasks of an act do -/

/-- An act that completes a repetition: its request, its records, what follows it, and its notice (R27 to R35). -/
structure Completes (e : Entry) (a : Agenda) (s u : State) (rs : List Report) : Prop where
  reported : Reported rs s u
  lines : u.lines = linesAfterAct e.job s
  follows : Follows e (kindOfAct e.job e.due s) s.timebase.time a (act e s.timebase.time a).1 rs
  counted : inReturn e.job = false → runTasks (act e s.timebase.time a).2 s = boundaryAct e.handle u
  ends : inReturn e.job = true → (act e s.timebase.time a).1 = ended e a →
    runTasks (act e s.timebase.time a).2 s = boundaryGone e.handle u
  goesOn : inReturn e.job = true → (act e s.timebase.time a).1 ≠ ended e a →
    runTasks (act e s.timebase.time a).2 s = u

/-- A notice leaves the lines and the report queue. -/
theorem Completes.records (done : Completes e a s u rs) :
    Offered rs s (runTasks (act e s.timebase.time a).2 s) ∧
      (runTasks (act e s.timebase.time a).2 s).lines = linesAfterAct e.job s := by
  by_cases back : inReturn e.job = true
  · by_cases same : (act e s.timebase.time a).1 = ended e a
    · rw [done.ends back same]
      exact ⟨done.reported.records.congr (boundaryGone_reports _ u) (boundaryGone_rptLost _ u),
        (boundaryGone_lines _ u).trans done.lines⟩
    · rw [done.goesOn back same]
      exact ⟨done.reported.records, done.lines⟩
  · rw [done.counted (eq_false_of_ne_true back)]
    exact ⟨done.reported.records.congr (boundaryAct_reports _ u) (boundaryAct_rptLost _ u),
      (boundaryAct_lines _ u).trans done.lines⟩

theorem runTasks_countedAct (h : Handle) (w : Work) (s : State) :
    runTasks (countedAct h w).2 s = boundaryAct h (runTasks w.2 s) := runTasks_append _ _ s

/-- A settled act that is told of as a boundary act tells of no departure. -/
theorem runTasks_settle_counted (e : Entry) (j : Job) (a : Agenda) (s : State) :
    let w := settle e (askFor (requestOf j)) true e.due s.timebase.time a
    ∃ u, Reported (followedRecords e (kindOfAct j e.due s) s.timebase.time (following e s.timebase.time)) s u ∧
      u.lines = linesAfterAct j s ∧ runTasks w.2 s = u := by
  obtain ⟨u, records, lines, again, ends⟩ := runTasks_settle e j true a s
  refine ⟨u, records, lines, ?_⟩
  by_cases same : (settle e (askFor (requestOf j)) true e.due s.timebase.time a).1 = ended e a
  · exact ends same
  · exact again same

theorem act_completes (e : Entry) (a : Agenda) (s : State) (moves : ∀ l w, e.job ≠ .pulse l w .assertAct) :
    ∃ u rs, Completes e a s u rs := by
  by_cases back : inReturn e.job = true
  · obtain ⟨l, w, job⟩ : ∃ l w, e.job = .pulse l w .returnAct := by
      cases job : e.job with
      | drive | mark => rw [job] at back; cases back
      | pulse l w p =>
        cases p with
        | assertAct => exact absurd job (moves l w)
        | returnAct => exact ⟨l, w, rfl⟩
    obtain ⟨u, records, lines, again, ends⟩ := runTasks_settle e e.job false a s
    rw [← act_return job] at again ends
    refine ⟨u, _, records, lines, ?_, fun other => absurd back (by rw [other]; decide), fun _ => ends, fun _ => again⟩
    rw [act_return job, settle_eq]
    exact follows_followed e _ _ a
  · have drives : ∀ l w p, e.job ≠ .pulse l w p := fun l w p job => by
      cases p with
      | assertAct => exact moves l w job
      | returnAct => exact back (by rw [job]; rfl)
    obtain ⟨u, records, lines, tasks⟩ := runTasks_settle_counted e e.job a s
    refine ⟨u, _, records, lines, ?_, fun _ => ?_, fun other => absurd other back, fun other => absurd other back⟩
    · rw [act_counted drives]
      exact (settle_eq e _ true _ a).symm ▸ follows_followed e _ _ a
    · rw [act_counted drives, runTasks_countedAct, tasks]

/-! ## The ASSERT of a PULSE (R29) -/

theorem kindOfAct_congr (j : Job) (due : Time) (lines : t.lines = s.lines) (time : t.timebase = s.timebase)
    (groups : t.groups = s.groups) : kindOfAct j due t = kindOfAct j due s := by
  unfold kindOfAct
  rw [time, groups]
  cases requestOf j with
  | none => rfl
  | some lr =>
    dsimp only
    rw [request_congr (l := lr.1) (r := lr.2) lines time]

theorem linesAfterAct_congr (j : Job) (lines : t.lines = s.lines) (time : t.timebase = s.timebase) :
    linesAfterAct j t = linesAfterAct j s := by
  unfold linesAfterAct
  rw [lines]
  cases requestOf j with
  | none => rfl
  | some lr =>
    dsimp only
    rw [request_congr (l := lr.1) (r := lr.2) lines time]
    rfl

section
variable {l : Fin 16} {w : Nat}

/-- The request of an ASSERT and its record. -/
theorem runTasks_assert (job : e.job = .pulse l w .assertAct) (s : State) :
    let u := runTasks (askFor (requestOf e.job)
      (recordOf (movedToReturn e l w) (kindBySlip e.due s.timebase.time) false e.due s.timebase.time)) s
    Reported (asked e.option [recordNow e (kindOfAct e.job e.due s) false e.due e.missed s.timebase.time]) s u ∧
      u.lines = (request l .active s).2.lines := by
  obtain ⟨records, lines⟩ := runTasks_askFor_recordOf (movedToReturn e l w) e.job false e.due s
  have named : recordNow (movedToReturn e l w) (kindOfAct e.job e.due s) false e.due (movedToReturn e l w).missed
      s.timebase.time = recordNow e (kindOfAct e.job e.due s) false e.due e.missed s.timebase.time := by
    unfold recordNow
    rw [job]
    rfl
  rw [named] at records
  have asks : requestOf e.job = some (l, .active) := by rw [job]; rfl
  exact ⟨records, lines.trans (linesAfterAct_request asks s)⟩

/-- An ASSERT whose RETURN is not late yet: the entry is placed in RETURN (R29). -/
theorem act_asserts (job : e.job = .pulse l w .assertAct) (a : Agenda) (s : State)
    (future : isLate (e.anchor + ticks w) s.timebase.time = false) :
    (act e s.timebase.time a).1 = place (inRet e l w) a ∧
    ∃ u, Reported (asked e.option [recordNow e (kindOfAct e.job e.due s) false e.due e.missed s.timebase.time]) s u ∧
      u.lines = (request l .active s).2.lines ∧
      runTasks (act e s.timebase.time a).2 s = boundaryAct e.handle u := by
  obtain ⟨records, lines⟩ := runTasks_assert job s
  rw [act_assert job, if_neg (ne_true_of_eq_false future)]
  exact ⟨rfl, _, records, lines, runTasks_countedAct _ _ s⟩

/-- An ASSERT whose RETURN is late by then: the RETURN is done in the same service (R29). -/
theorem act_assertsAndReturns (job : e.job = .pulse l w .assertAct) (a : Agenda) (s : State)
    (late : isLate (e.anchor + ticks w) s.timebase.time = true) :
    let first := (request l .active s).2
    (act e s.timebase.time a).1 = followedAgenda (inRet e l w) a (following (inRet e l w) s.timebase.time) ∧
    ∃ u, Reported (asked e.option [recordNow e (kindOfAct e.job e.due s) false e.due e.missed s.timebase.time] ++
        followedRecords (inRet e l w) (kindOfAct (inRet e l w).job (inRet e l w).due first) s.timebase.time
          (following (inRet e l w) s.timebase.time)) s u ∧
      u.lines = (request l .inactive first).2.lines ∧
      runTasks (act e s.timebase.time a).2 s = boundaryAct e.handle u := by
  intro first
  obtain ⟨records, lines⟩ := runTasks_assert job s
  rw [act_assert job, if_pos late]
  refine ⟨settle_eq (inRet e l w) _ true _ a, ?_⟩
  rw [runTasks_countedAct]
  dsimp only
  rw [runTasks_append]
  generalize runTasks _ s = u at records lines ⊢
  have time : u.timebase = s.timebase := by rw [records.frame]
  have groups : u.groups = s.groups := by rw [records.frame]
  have time' : u.timebase = first.timebase := time.trans (request_timebase l .active s).symm
  obtain ⟨v, more, after, tasks⟩ := runTasks_settle_counted (inRet e l w) (inRet e l w).job a u
  rw [kindOfAct_congr _ _ lines time' (groups.trans (request_groups l .active s).symm), time] at more
  rw [linesAfterAct_congr _ lines time'] at after
  rw [time] at tasks
  exact ⟨v, records.trans more, after, congrArg (boundaryAct e.handle) tasks⟩

end

/-- The tasks of an act change what an act can change, and nothing else (R36). -/
theorem actFrame_act (e : Entry) (a : Agenda) (s : State) :
    ActFrame s (runTasks (act e s.timebase.time a).2 s) := by
  by_cases moves : ∃ l w, e.job = .pulse l w .assertAct
  · obtain ⟨l, w, job⟩ := moves
    by_cases late : isLate (e.anchor + ticks w) s.timebase.time = true
    · obtain ⟨-, u, records, -, tasks⟩ := act_assertsAndReturns job a s late
      rw [tasks]
      exact records.actFrame.boundaryAct e.handle
    · obtain ⟨-, u, records, -, tasks⟩ := act_asserts job a s (eq_false_of_ne_true late)
      rw [tasks]
      exact records.actFrame.boundaryAct e.handle
  · obtain ⟨u, rs, done⟩ := act_completes e a s fun l w job => moves ⟨l, w, job⟩
    by_cases back : inReturn e.job = true
    · by_cases same : (act e s.timebase.time a).1 = ended e a
      · rw [done.ends back same]
        exact done.reported.actFrame.boundaryGone e.handle
      · rw [done.goesOn back same]
        exact done.reported.actFrame
    · rw [done.counted (eq_false_of_ne_true back)]
      exact done.reported.actFrame.boundaryAct e.handle

theorem act_registers (e : Entry) (now : Time) (a : Agenda) :
    (act e now a).1.reserve = a.reserve ∧ (act e now a).1.poolLow = a.poolLow := by
  obtain ⟨x, eq, -⟩ | ⟨eq, -⟩ := act_agenda e now a <;> rw [eq] <;> exact ⟨rfl, rfl⟩

/-! ## The expiry service (R36) -/

section
variable {rest : List Entry}

/-- The state after the expiry service. -/
def afterExpiry (e : Entry) (rest : List Entry) (s : State) : State :=
  let w := act e s.timebase.time { s.agenda with list := rest }
  idle (withAgenda w.1 (runTasks w.2 s))

theorem exec_expiryService (next : nextClaim s = some .expiry) (list : s.agenda.list = e :: rest) :
    exec (.expiryService .whole) s = .next (afterExpiry e rest s) := by
  have work : expiryPlan s.timebase.time s.agenda = act e s.timebase.time { s.agenda with list := rest } := by
    unfold expiryPlan
    rw [list]
  obtain ⟨reserve, poolLow⟩ := act_registers e s.timebase.time { s.agenda with list := rest }
  refine congrArg Host.Outcome.next ((serviceRow_expiry next work (act_tasks e _ _)).trans ?_)
  rw [publish_eq]
  · rfl
  · rw [runTasks_agenda]
    exact reserve
  · rw [runTasks_agenda]
    exact poolLow

theorem onlyExpiryEffects_idle (frame : ActFrame s u) (b : Agenda) : onlyExpiryEffects s (idle (withAgenda b u)) := by
  unfold onlyExpiryEffects
  unfold ActFrame at frame
  rw [frame]
  rfl

theorem onlyExpiryEffects_afterExpiry (e : Entry) (rest : List Entry) (s : State) :
    onlyExpiryEffects s (afterExpiry e rest s) := onlyExpiryEffects_idle (actFrame_act e _ s) _

theorem actsNow_afterExpiry (e : Entry) (rest : List Entry) (s : State) :
    ActsNow e { s.agenda with list := rest } s (afterExpiry e rest s) := by
  have frame := actFrame_act e { s.agenda with list := rest } s
  exact {
    agenda := rfl, lines := rfl, reports := rfl, rptLost := rfl, batch := rfl, batchEnd := rfl, apply := rfl
    timebase := frame.timebase, groups := frame.groups, capture := frame.capture, pins := frame.pins }

end

/-- The end of the service stands outside of what a statement says of the batch. -/
theorem BoundaryActed.idle (k : BoundaryActed h s u) (b : Agenda) : BoundaryActed h s (idle (withAgenda b u)) :=
  ⟨k.watched, k.notWatched⟩

theorem BoundaryGone.idle (k : BoundaryGone h s u) (b : Agenda) : BoundaryGone h s (idle (withAgenda b u)) :=
  ⟨k.watched, k.notWatched⟩

theorem Offered.idle (k : Offered rs s u) (b : Agenda) : Offered rs s (idle (withAgenda b u)) := k.congr rfl rfl

/-- Settles O42: the act completes a repetition, and the service ends with what follows it. -/
theorem expiryOfPeriodicRepeats : Obligations.ExpiryOfPeriodicRepeats := by
  unfold Obligations.ExpiryOfPeriodicRepeats
  intro s e rest next list moves a
  obtain ⟨u, rs, done⟩ := act_completes e a s moves
  obtain ⟨records, lines⟩ := done.records
  refine ⟨afterExpiry e rest s, rs, exec_expiryService next list, onlyExpiryEffects_afterExpiry e rest s, lines,
    done.follows, records.idle _, fun drives => ?_, fun back same => ?_, fun back other => ?_⟩
  · have acted := (done.reported.acted e.handle).idle (act e s.timebase.time a).1
    rw [← done.counted drives] at acted
    exact acted
  · have gone := (done.reported.gone e.handle).idle (act e s.timebase.time a).1
    rw [← done.ends back same] at gone
    exact gone
  · have stands := done.reported.batchStands
    rw [← done.goesOn back other] at stands
    exact stands

/-- Settles O43: an ASSERT is placed in RETURN or returns in the same service; a RETURN completes its repetition. -/
theorem expiryOfPulseAssertsAndReturns : Obligations.ExpiryOfPulseAssertsAndReturns := by
  unfold Obligations.ExpiryOfPulseAssertsAndReturns
  intro s e rest l w next list now a ret asserted inReturn'
  refine ⟨afterExpiry e rest s, exec_expiryService next list, onlyExpiryEffects_afterExpiry e rest s,
    fun job => ?_, fun job future => ?_, fun job late => ?_, fun job => ?_⟩
  · by_cases late : isLate ret now = true
    · obtain ⟨-, u, records, -, tasks⟩ := act_assertsAndReturns job a s late
      have acted := (records.acted e.handle).idle (act e s.timebase.time a).1
      rw [← tasks] at acted
      exact acted
    · obtain ⟨-, u, records, -, tasks⟩ := act_asserts job a s (eq_false_of_ne_true late)
      have acted := (records.acted e.handle).idle (act e s.timebase.time a).1
      rw [← tasks] at acted
      exact acted
  · obtain ⟨agenda, u, records, lines, tasks⟩ := act_asserts job a s future
    have told := records.records.congr (boundaryAct_reports e.handle u) (boundaryAct_rptLost e.handle u)
    rw [← tasks] at told
    refine ⟨?_, agenda, told.idle _⟩
    exact (congrArg State.lines tasks).trans ((boundaryAct_lines e.handle u).trans lines)
  · intro first
    obtain ⟨agenda, u, records, lines, tasks⟩ := act_assertsAndReturns job a s late
    have told := records.records.congr (boundaryAct_reports e.handle u) (boundaryAct_rptLost e.handle u)
    rw [← tasks] at told
    refine ⟨(congrArg State.lines tasks).trans ((boundaryAct_lines e.handle u).trans lines),
      ⟨_, ?_, told.idle _⟩, fun once => agenda.trans ?_⟩
    · have follows := follows_followed (inRet e l w) (kindOfAct (inRet e l w).job (inRet e l w).due first) now a
      rw [← agenda] at follows
      exact follows
    · rw [following_oneShot (e := inRet e l w) once]
      rfl
  · obtain ⟨u, rs, done⟩ := act_completes e a s fun l' w' other => by
      rw [job] at other
      cases other
    obtain ⟨records, lines⟩ := done.records
    have back : inReturn e.job = true := by rw [job]; rfl
    have asks : requestOf e.job = some (l, .inactive) := by rw [job]; rfl
    refine ⟨lines.trans (linesAfterAct_request asks s), ⟨rs, done.follows, records.idle _⟩, ?_, fun same => ?_,
      fun other => ?_⟩
    · obtain ⟨oneShot, last, -⟩ := done.follows
      rintro (once | ⟨p, one⟩)
      · exact (oneShot once).1
      · exact (last p one).1
    · have gone := (done.reported.gone e.handle).idle (act e s.timebase.time a).1
      rw [← done.ends back same] at gone
      exact gone
    · have stands := done.reported.batchStands
      rw [← done.goesOn back other] at stands
      exact stands

/-! ## A one-shot entry that is no PULSE (R28, R31, R39) -/

theorem askFor_none_silent (q : Option (Fin 16 × Request)) (s : State) :
    (runTasks (askFor q none) s).reports = s.reports ∧ (runTasks (askFor q none) s).irq = s.irq := by
  cases q with
  | none => exact ⟨rfl, rfl⟩
  | some lr => exact ⟨request_reports lr.1 lr.2 s, request_irq lr.1 lr.2 s⟩

/-- Without a report option an act leaves the report queue and the flags. -/
theorem act_oneShot_silent (once : e.repetition = .oneShot) (drives : ∀ l w p, e.job ≠ .pulse l w p)
    (option : e.option = .none) (a : Agenda) (s : State) :
    (runTasks (act e s.timebase.time a).2 s).reports = s.reports ∧
      (runTasks (act e s.timebase.time a).2 s).irq = s.irq := by
  have unasked : recordOf e (kindBySlip e.due s.timebase.time) true e.due s.timebase.time = none := by
    unfold recordOf
    rw [option]
    rfl
  have tasks : (settle e (askFor (requestOf e.job)) true e.due s.timebase.time a).2 =
      askFor (requestOf e.job) none := by
    unfold settle
    rw [following_oneShot once]
    dsimp only
    rw [unasked]
    exact List.append_nil _
  obtain ⟨reports, irq⟩ := askFor_none_silent (requestOf e.job) s
  rw [act_counted drives, runTasks_countedAct, tasks]
  exact ⟨(boundaryAct_reports _ _).trans reports, (boundaryAct_irq _ _).trans irq⟩

/-- The lines after the act of an entry that is no PULSE. -/
theorem linesAfterAct_of_drive (drives : ∀ l w p, e.job ≠ .pulse l w p) (s : State) :
    linesAfterAct e.job s = (match e.job with | .drive l r => (request l r s).2.lines | _ => s.lines) := by
  cases job : e.job with
  | drive l r => rfl
  | mark => rfl
  | pulse l w p => exact absurd job (drives l w p)

theorem inReturn_of_drive {j : Job} (drives : ∀ l w p, j ≠ .pulse l w p) : inReturn j = false := by
  cases j with
  | drive | mark => rfl
  | pulse l w p => exact absurd rfl (drives l w p)

/-- The one act of a one-shot entry that is no PULSE ends it, with its final record (R28, R31, R33). -/
theorem act_oneShot (once : e.repetition = .oneShot) (drives : ∀ l w p, e.job ≠ .pulse l w p) (a : Agenda) (s : State) :
    (act e s.timebase.time a).1 = ended e a ∧ ∃ u,
      Reported (asked e.option [recordNow e (kindOfAct e.job e.due s) true e.due e.missed s.timebase.time]) s u ∧
      u.lines = linesAfterAct e.job s ∧ runTasks (act e s.timebase.time a).2 s = boundaryAct e.handle u := by
  obtain ⟨u, rs, done⟩ := act_completes e a s fun l w => drives l w .assertAct
  obtain ⟨ends, -⟩ := done.follows
  obtain ⟨agenda, records⟩ := ends once
  subst records
  exact ⟨agenda, u, done.reported, done.lines, done.counted (inReturn_of_drive drives)⟩

/-- Settles O41: the head acts; a one-shot entry's act is its end. -/
theorem expiryOfOneShotActsAndEnds : Obligations.ExpiryOfOneShotActsAndEnds := by
  unfold Obligations.ExpiryOfOneShotActsAndEnds
  intro s e rest next list
  refine ⟨afterExpiry e rest s, exec_expiryService next list, actsNow_afterExpiry e rest s, fun once drives => ?_⟩
  obtain ⟨agenda, u, records, lines, tasks⟩ := act_oneShot once drives { s.agenda with list := rest } s
  have told := records.records.congr (boundaryAct_reports e.handle u) (boundaryAct_rptLost e.handle u)
  have acted := (records.acted e.handle).idle (act e s.timebase.time { s.agenda with list := rest }).1
  rw [← tasks] at told acted
  refine ⟨onlyExpiryEffects_afterExpiry e rest s, agenda, ?_, acted, fun option => ?_, fun option => ?_⟩
  · exact (congrArg State.lines tasks).trans
      ((boundaryAct_lines e.handle u).trans (lines.trans (linesAfterAct_of_drive drives s)))
  · exact act_oneShot_silent once drives option _ s
  · have offered := told.idle (act e s.timebase.time { s.agenda with list := rest }).1
    cases o : e.option with
    | none => exact absurd o option
    | final =>
      rw [o] at offered
      exact offered
    | every =>
      rw [o] at offered
      exact offered

end Sys2Proof.Machine
end

section
/-! Chapter The Agenda: insertions that act at once, retiming, and SCHEDULE reactions (R37 to R40, R44, R45, R139). -/

-- Each lemma waits for the ones before it: elaborated side by side they hold a thread each.
set_option Elab.async false

namespace Sys2Proof.Machine

variable {s t u v : State} {a b : Agenda} {ks : List Task} {e x : Entry} {rs : List Report} {h : Handle}

/-! ## The entry taken out of the list -/

theorem eraseP_slot_eq_filter (slot : BitVec 8) (l : List Entry) (apart : (l.map fun e => e.handle.slot).Nodup) :
    l.eraseP (fun e => e.handle.slot == slot) = l.filter (fun e => e.handle.slot != slot) := by
  induction l with
  | nil => rfl
  | cons x l ih =>
    rw [List.map_cons, List.nodup_cons] at apart
    obtain ⟨fresh, apart⟩ := apart
    by_cases same : x.handle.slot = slot
    · have others : ∀ y ∈ l, (y.handle.slot != slot) = true := fun y mem => bne_iff_ne.2 fun eq =>
        fresh (List.mem_map.2 ⟨y, mem, eq.trans same.symm⟩)
      rw [List.eraseP_cons, List.filter_cons_of_neg (by simp [same]), List.filter_eq_self.2 others, same, beq_self_eq_true]
      rfl
    · rw [List.eraseP_cons, List.filter_cons_of_pos (by simp [same]), ih apart, beq_false_of_ne same]
      rfl

/-- Where the slots are well kept, taking an entry out leaves every other one (R18). -/
theorem SlotsOk.takeOut_eq (ok : SlotsOk a) (slot : BitVec 8) :
    Machine.takeOut slot a = { a with list := a.list.filter (fun e => e.handle.slot != slot) } :=
  congrArg (fun l => { a with list := l })
    (eraseP_slot_eq_filter slot a.list (List.nodup_append.1 ok.nodup).2.1)

/-! ## The host's service that ends with an act (R39, R45) -/

/-- The state after a host service that made an entry act, POOL_LOW set where `low` says so, with these result
words. -/
def actedFor (e : Entry) (a : Agenda) (low : Bool) (h : Handle) (s : State) : State :=
  let w := act e s.timebase.time a
  posted .ok (handleWords h w.1) (hostServed (withAgenda w.1 (besides id id low (runTasks w.2 s))))

theorem writeRes_two (x y : Word) (res : Vector Word 8) :
    (writeRes [x, y] res)[0] = x ∧ (writeRes [x, y] res)[1] = y := by
  simp [writeRes]

theorem handleWords_eq (h : Handle) (a : Agenda) :
    handleWords h a = [handleWord h, if isPending h a then 1 else 2] := by
  by_cases pending : isPending h a = true
  · rw [handleWords_pending pending, if_pos pending]
  · rw [handleWords_done (eq_false_of_ne_true pending), if_neg pending]

section
variable (e : Entry) (a : Agenda) (low : Bool) (h : Handle) (s : State)

theorem actedFor_words : readWord (actedFor e a low h s) 0x12 = handleWord h ∧
    readWord (actedFor e a low h s) 0x13 =
      if isPending h (act e s.timebase.time a).1 then 1 else 2 := by
  have words := writeRes_two (handleWord h) (if isPending h (act e s.timebase.time a).1 then 1 else 2)
    (runTasks (act e s.timebase.time a).2 s).port.res
  rw [← handleWords_eq] at words
  exact words

theorem actedFor_actsNow : ActsNow e a s (actedFor e a low h s) := by
  have frame := actFrame_act e a s
  exact {
    agenda := rfl, lines := rfl, reports := rfl, rptLost := rfl, batch := rfl, batchEnd := rfl, apply := rfl
    timebase := frame.timebase, groups := frame.groups, capture := frame.capture, pins := frame.pins }

theorem actedFor_poolLow : (actedFor e a low h s).irq.flags.poolLow = (s.irq.flags.poolLow || low) :=
  congrArg (· || low) (actFrame_act e a s).poolLow

theorem actedFor_reactions : (actedFor e a low h s).reactions = s.reactions := (actFrame_act e a s).reactions

end

/-- The service ends with an act, whatever it tells of an allocation before. -/
theorem publish_act (reserve : a.reserve = s.agenda.reserve) (poolLow : a.poolLow = s.agenda.poolLow) (low : Bool) :
    publish (act e s.timebase.time a).1 (besides id id low (runTasks (act e s.timebase.time a).2 s)) =
      withAgenda (act e s.timebase.time a).1 (besides id id low (runTasks (act e s.timebase.time a).2 s)) := by
  obtain ⟨reserve', poolLow'⟩ := act_registers e s.timebase.time a
  have same : (runTasks (act e s.timebase.time a).2 s).agenda = s.agenda := runTasks_agenda _ s
  refine publish_eq (s := besides id id low _) ?_ ?_
  · exact (reserve'.trans reserve).trans (congrArg Agenda.reserve same).symm
  · exact (poolLow'.trans poolLow).trans (congrArg Agenda.poolLow same).symm

theorem besides_nothing (s : State) : besides id id false s = s := besides_quiet id id s

/-- A host service that makes an entry act, with no allocation before. -/
theorem posted_act (reserve : a.reserve = s.agenda.reserve) (poolLow : a.poolLow = s.agenda.poolLow) (h : Handle) :
    posted .ok (handleWords h (act e s.timebase.time a).1) (hostServed
      (publish (act e s.timebase.time a).1 (runTasks (act e s.timebase.time a).2 s))) = actedFor e a false h s := by
  have published := publish_act (e := e) reserve poolLow false
  have same := besides_nothing (runTasks (act e s.timebase.time a).2 s)
  rw [same] at published
  rw [published]
  exact congrArg (fun v => posted .ok (handleWords h (act e s.timebase.time a).1)
    (hostServed (withAgenda (act e s.timebase.time a).1 v))) same.symm

theorem runTasks_allocated (free : Nat) (tasks : ∀ k ∈ ks, agendaTask k) (s : State) :
    runTasks (.allocated free :: ks) s = besides id id (decide (free < s.agenda.poolLow)) (runTasks ks s) := by
  have first : runTasks (.allocated free :: ks) s = runTasks ks (runTask (.allocated free) s).1 := rfl
  rw [first, runTask_allocated, runTasks_besides tasks fun _ => rfl]

theorem allocated_tasks (free : Nat) (tasks : ∀ k ∈ ks, agendaTask k) : ∀ k ∈ Task.allocated free :: ks, agendaTask k := by
  intro k mem
  obtain rfl | mem := List.mem_cons.1 mem
  · trivial
  · exact tasks k mem

/-- The entry an insertion builds acts at once where its due is late under FIRE (R39). -/
theorem exec_insertService_late {i : Insertion} {slot : BitVec 8} {rest : List (BitVec 8)} (grant : hostGranted 0x01 s)
    (named : insertionOf s.port.params = some i) (late : isLate i.due s.timebase.time = true)
    (fire : i.late = .fire) (free : s.agenda.free = slot :: rest) (enough : s.agenda.reserve ≤ rest.length) :
    exec (.insertService .whole) s = .next (actedFor (buildEntry i .host (newHandle s.agenda slot))
      (allocated s.agenda slot rest) (decide (rest.length < s.agenda.poolLow)) (newHandle s.agenda slot) s) := by
  have plan := hostPlan_insert (reserve := s.agenda.reserve) (now := s.timebase.time) (a := s.agenda) grant.2
  obtain ⟨-, -, -, passes⟩ := insertPlan_cases (a := s.agenda) (now := s.timebase.time)
    (reserve := s.agenda.reserve) named
  have work := plan.trans (passes slot rest (fun drop => by rw [fire] at drop; cases drop.2) free enough)
  rw [placeOrAct_late late] at work
  have tasks := act_tasks (buildEntry i .host (newHandle s.agenda slot)) s.timebase.time (allocated s.agenda slot rest)
  refine congrArg Host.Outcome.next ((serviceRow_host (ks := .allocated rest.length :: _) grant work
    (allocated_tasks _ tasks)).trans ?_)
  rw [runTasks_allocated _ tasks, publish_act (a := allocated s.agenda slot rest) rfl rfl]
  rfl

/-! ## A late insertion under FIRE (R39) -/

theorem actKind_late (a : Answer) (g : GroupState) :
    actKind a g .late ∈ [ReportKind.late, .suppressed, .deferred, .blocked] := by
  cases a <;> cases g <;> decide

/-- The kind of a late act is not FIRED (R27, R28). -/
theorem kindOfAct_late (j : Job) {due : Time} (late : isLate due s.timebase.time = true) :
    kindOfAct j due s ∈ [ReportKind.late, .suppressed, .deferred, .blocked] := by
  have apart : due ≠ s.timebase.time := fun same => by
    have behind := (isLate_iff _ _).1 late
    rw [(lead_eq_zero due s.timebase.time).2 same] at behind
    omega
  cases asks : requestOf j with
  | none =>
    rw [kindOfAct_mark asks, kindBySlip_eq, if_neg apart]
    decide
  | some lr =>
    rw [kindOfAct_request (l := lr.1) (r := lr.2) asks, kindBySlip_eq, if_neg apart]
    exact actKind_late _ _

/-- One record offered where there is room joins the tail. -/
theorem Offered.kept {r : Report} (k : Offered [r] s t) (room : s.reports.queue.length < 64) :
    t.reports.queue = s.reports.queue ++ [r] := by
  have queue := k.queue
  rwa [List.take_of_length_le (by rw [List.length_singleton]; omega)] at queue

/-- A slot that is free holds no pending entry (R18). -/
theorem SlotsOk.not_pending_of_free (ok : SlotsOk a) {slot : BitVec 8} (free : slot ∈ a.free) (list : b.list = a.list)
    (same : h.slot = slot) : isPending h b = false := by
  refine eq_false_of_ne_true fun pending => ?_
  unfold isPending at pending
  split at pending
  case h_1 y resolved =>
    obtain ⟨-, mem, at_slot⟩ := resolveIn_eq_pending resolved
    rw [list] at mem
    exact (ok.mem_free slot).1 free y mem (at_slot.trans same)
  all_goals cases pending

/-- Settles O34: the service makes the built entry act; a one-shot entry that is no PULSE is at its end. -/
theorem lateInsertUnderFireActsAtOnce : Obligations.LateInsertUnderFireActsAtOnce := by
  unfold Obligations.LateInsertUnderFireActsAtOnce
  intro s i slot rest grant named late fire free enough h e a
  obtain ⟨handle, disposition⟩ := actedFor_words e a (decide (rest.length < s.agenda.poolLow)) h s
  refine ⟨_, exec_insertService_late grant named late fire free enough, rfl, rfl, rfl, actedFor_poolLow e a _ h s,
    handle, actedFor_actsNow e a _ h s, actedFor_reactions e a _ h s, fun pending => ?_, fun gone => ?_,
    fun slots once drives unwatched => ?_⟩
  · exact disposition.trans (if_pos pending)
  · exact disposition.trans (if_neg (ne_true_of_eq_false gone))
  obtain ⟨agenda, u, records, lines, tasks⟩ := act_oneShot (e := e) once drives a s
  have other : u.batch.watch ≠ some e.handle := by rw [records.batch]; exact unwatched
  rw [boundaryAct_other other] at tasks
  have gone : isPending h (act e s.timebase.time a).1 = false := by
    have mem : slot ∈ s.agenda.free := by rw [free]; exact List.mem_cons_self
    have list : (act e s.timebase.time a).1.list = s.agenda.list := by rw [agenda]; rfl
    exact slots.1.not_pending_of_free mem list rfl
  refine ⟨agenda, disposition.trans (if_neg (ne_true_of_eq_false gone)), ?_, fun option => ?_, fun option room => ?_⟩
  · exact (congrArg State.lines tasks).trans (lines.trans (linesAfterAct_of_drive (e := e) drives s))
  · exact (act_oneShot_silent (e := e) once drives option a s).1
  · have told : asked i.option [recordNow e (kindOfAct e.job e.due s) true e.due e.missed s.timebase.time] =
        [recordNow e (kindOfAct e.job e.due s) true e.due e.missed s.timebase.time] := by
      cases o : i.option with
      | none => exact absurd o option
      | final | every => rfl
    have offered := records.records
    change Offered (asked i.option _) s u at offered
    rw [told] at offered
    refine ⟨_, (congrArg (fun v => v.reports.queue) tasks).trans (offered.kept room), ?_, rfl, rfl, rfl, rfl, rfl, rfl,
      rfl, rfl⟩
    exact kindOfAct_late e.job late

/-! ## RETIME (R44, R45) -/

/-- The entry with this due and anchor (R45). -/
def retimed (e : Entry) (due : Time) : Entry := { e with due := due, anchor := due }

section
variable {p : Vector Word 8} {now due : Time}

theorem retimeEntry_returning (back : inReturn e.job = true) : retimeEntry e due now a = .error .wrongState :=
  if_pos back

theorem retimeEntry_late (out : inReturn e.job = false) (late : isLate due now = true) (drop : e.late = .drop) :
    retimeEntry e due now a = .error .late :=
  (if_neg (ne_true_of_eq_false out)).trans (if_pos (lateUnderDrop_iff.2 ⟨late, drop⟩))

theorem retimeEntry_taken (out : inReturn e.job = false) (taken : ¬ (isLate due now = true ∧ e.late = .drop)) :
    retimeEntry e due now a = .ok (placeOrAct (retimed e due) now (takeOut e.handle.slot a)) :=
  (if_neg (ne_true_of_eq_false out)).trans (if_neg fun late => taken (lateUnderDrop_iff.1 late))

theorem retimePlan_stale (stale : resolveIn (handleOfWord p[0]) a = .stale) :
    retimePlan p now a = answer .stale [] a := by
  unfold retimePlan
  dsimp only
  rw [stale]

theorem retimePlan_notPending (free : resolveIn (handleOfWord p[0]) a = .notPending) :
    retimePlan p now a = answer .notPending [] a := by
  unfold retimePlan
  dsimp only
  rw [free]

theorem retimePlan_refused {r : BatchReason} (pending : resolveIn (handleOfWord p[0]) a = .pending e)
    (refused : retimeEntry e (ofHalves p[1] p[2]) now a = .error r) :
    retimePlan p now a = answer (reasonResult r) [] a := by
  unfold retimePlan
  dsimp only
  rw [pending]
  dsimp only
  rw [refused]

theorem retimePlan_taken {w : Work} (pending : resolveIn (handleOfWord p[0]) a = .pending e)
    (taken : retimeEntry e (ofHalves p[1] p[2]) now a = .ok w) :
    retimePlan p now a = answered (handleWords (handleOfWord p[0]) w.1) w := by
  unfold retimePlan
  dsimp only
  rw [pending]
  dsimp only
  rw [taken]

end

/-- Settles O37: each refusal answers alone; a retiming that is taken places the entry again or makes it act. -/
theorem retimeServiceMovesTheEntry : Obligations.RetimeServiceMovesTheEntry := by
  unfold Obligations.RetimeServiceMovesTheEntry
  intro s grant h due
  have plan := hostPlan_retime (reserve := s.agenda.reserve) (now := s.timebase.time) (a := s.agenda) grant.2
  refine ⟨fun stale => serviceRow_answers grant (plan.trans (retimePlan_stale stale)),
    fun free => serviceRow_answers grant (plan.trans (retimePlan_notPending free)), fun slots e mem handle => ?_⟩
  have pending : resolveIn h s.agenda = .pending e := (slots.1.resolveIn_pending h).2 ⟨mem, handle⟩
  have others := slots.1.takeOut_eq h.slot
  have slot : e.handle.slot = h.slot := congrArg Handle.slot handle
  refine ⟨fun back => ?_, fun out late drop => ?_, fun out late fire => ?_, fun out future => ?_⟩
  · exact serviceRow_answers grant (plan.trans (retimePlan_refused pending (retimeEntry_returning back)))
  · exact serviceRow_answers grant (plan.trans (retimePlan_refused pending (retimeEntry_late out late drop)))
  · have taken := retimeEntry_taken (a := s.agenda) out (due := due) (now := s.timebase.time)
      (fun drop => by rw [fire] at drop; cases drop.2)
    rw [slot, others, placeOrAct_late (e := retimed e due) late] at taken
    have work := plan.trans (retimePlan_taken pending taken)
    have service := serviceRow_host (ks := (act (retimed e due) s.timebase.time _).2) grant work (act_tasks _ _ _)
    have posts := service.trans (posted_act (e := retimed e due) (a := { s.agenda with
      list := s.agenda.list.filter (fun x => x.handle.slot != h.slot) }) rfl rfl h)
    obtain ⟨word, disposition⟩ := actedFor_words (retimed e due)
      { s.agenda with list := s.agenda.list.filter (fun x => x.handle.slot != h.slot) } false h s
    refine ⟨_, congrArg Host.Outcome.next posts, actedFor_actsNow _ _ _ _ s, rfl, rfl, rfl, word,
      actedFor_reactions _ _ _ _ s, fun pending => ?_, fun gone => ?_⟩
    · exact disposition.trans (if_pos pending)
    · exact disposition.trans (if_neg (ne_true_of_eq_false gone))
  · have taken := retimeEntry_taken (a := s.agenda) out (due := due) (now := s.timebase.time)
      (fun drop => by rw [future] at drop; cases drop.1)
    rw [slot, others, placeOrAct_placed (e := retimed e due) future] at taken
    have work := plan.trans (retimePlan_taken pending taken)
    have service := serviceRow_host (ks := []) grant work fun _ mem => nomatch mem
    have gen : s.agenda.gens[(retimed e due).handle.slot.toFin] = (retimed e due).handle.gen :=
      (slots.1.current e mem).symm
    have placed := isPending_place (e := retimed e due) (a := { s.agenda with
      list := s.agenda.list.filter (fun x => x.handle.slot != h.slot) }) gen
    change isPending e.handle _ = true at placed
    rw [handle] at placed
    have words := handleWords_pending placed
    refine congrArg Host.Outcome.next (service.trans ?_)
    exact congrArg (fun w => posted .ok w _) words

end Sys2Proof.Machine
end

section
/-! Chapter Reactions: the service of a SCHEDULE record (R40, R57, R139). -/

-- Each lemma waits for the ones before it: elaborated side by side they hold a thread each.
set_option Elab.async false

namespace Sys2Proof.Machine

variable {s t u : State} {a b : Agenda} {ks : List Task} {e : Entry} {i : Insertion} {row : Fin 16} {now : Time}
  {slot : BitVec 8} {rest : List (BitVec 8)}

/-! ## The insertion of a reaction by the cases of R40 -/

theorem insertReaction_noSlot (free : a.free = []) :
    insertReaction i row now a = (a, [.offer (noSlotReport i row now)]) := by
  unfold insertReaction
  rw [allocate_eq_none.2 free]

/-- The work of a reaction's entry under its new handle. -/
def reactionWork (e : Entry) (now : Time) (a : Agenda) : Work :=
  if lateUnderDrop e.due e.late now then
    (freeSlot e.handle.slot a, ((recordOf e .dropped true e.due now).map Task.offer).toList ++ [.gone e.handle])
  else placeOrAct e now a

theorem insertReaction_cons (free : a.free = slot :: rest) : insertReaction i row now a =
    let w := reactionWork (buildEntry i (.reaction row) (newHandle a slot)) now (allocated a slot rest)
    (w.1, .allocated rest.length :: w.2) := by
  unfold insertReaction
  rw [allocate_cons free]
  rfl

theorem reactionWork_late (late : isLate e.due now = true) (fire : e.late = .fire) :
    reactionWork e now a = act e now a :=
  (if_neg fun drop => by cases fire.symm.trans (lateUnderDrop_iff.1 drop).2).trans (placeOrAct_late late)

theorem reactionWork_placed (future : isLate e.due now = false) : reactionWork e now a = (place e a, []) :=
  (if_neg fun drop => by cases future.symm.trans (lateUnderDrop_iff.1 drop).1).trans (placeOrAct_placed future)

theorem reactionWork_dropped (late : isLate e.due now = true) (drop : e.late = .drop) : reactionWork e now a =
    (freeSlot e.handle.slot a, ((recordOf e .dropped true e.due now).map Task.offer).toList ++ [.gone e.handle]) :=
  if_pos (lateUnderDrop_iff.2 ⟨late, drop⟩)

/-- A late entry under FIRE acts, one under DROP ends, and any other is placed. -/
theorem reactionWork_cases (e : Entry) (now : Time) (a : Agenda) :
    (isLate e.due now = true ∧ e.late = .fire ∧ reactionWork e now a = act e now a) ∨
    (isLate e.due now = false ∧ reactionWork e now a = (place e a, [])) ∨
    (isLate e.due now = true ∧ e.late = .drop ∧ reactionWork e now a = (freeSlot e.handle.slot a,
      ((recordOf e .dropped true e.due now).map Task.offer).toList ++ [.gone e.handle])) := by
  by_cases late : isLate e.due now = true
  · cases policy : e.late with
    | fire => exact .inl ⟨late, rfl, reactionWork_late late policy⟩
    | drop => exact .inr (.inr ⟨late, rfl, reactionWork_dropped late policy⟩)
  · have future := eq_false_of_ne_true late
    exact .inr (.inl ⟨future, reactionWork_placed future⟩)

theorem reactionWork_tasks (e : Entry) (now : Time) (a : Agenda) : ∀ k ∈ (reactionWork e now a).2, agendaTask k := by
  obtain ⟨-, -, eq⟩ | ⟨-, eq⟩ | ⟨-, -, eq⟩ := reactionWork_cases e now a <;> rw [eq]
  · exact act_tasks e now a
  · exact fun _ mem => nomatch mem
  · intro k mem
    obtain mem | mem := List.mem_append.1 mem
    · exact recordOf_task _ _ _ _ _ k mem
    · rw [List.mem_singleton.1 mem]
      trivial

theorem reactionWork_registers (e : Entry) (now : Time) (a : Agenda) :
    (reactionWork e now a).1.reserve = a.reserve ∧ (reactionWork e now a).1.poolLow = a.poolLow := by
  obtain ⟨-, -, eq⟩ | ⟨-, eq⟩ | ⟨-, -, eq⟩ := reactionWork_cases e now a <;> rw [eq]
  · exact act_registers e now a
  · exact ⟨rfl, rfl⟩
  · exact ⟨rfl, rfl⟩

/-- A DROPPED entry's record is offered, and the boundary unit told that the entry is gone (R40, R149). -/
theorem runTasks_dropped (e : Entry) (now : Time) (s : State) :
    let u := runTasks ((recordOf e .dropped true e.due now).map Task.offer).toList s
    runTasks (((recordOf e .dropped true e.due now).map Task.offer).toList ++ [.gone e.handle]) s =
      boundaryGone e.handle u := runTasks_append _ _ s

theorem actFrame_reactionWork (e : Entry) (a : Agenda) (s : State) :
    ActFrame s (runTasks (reactionWork e s.timebase.time a).2 s) := by
  obtain ⟨-, -, eq⟩ | ⟨-, eq⟩ | ⟨-, -, eq⟩ := reactionWork_cases e s.timebase.time a <;> rw [eq]
  · exact actFrame_act e a s
  · exact (Reported.refl s).actFrame
  · rw [runTasks_dropped]
    exact (runTasks_recordOf e .dropped true e.due s.timebase.time s).1.actFrame.boundaryGone e.handle

/-! ## The whole service (R57, R139) -/

section
variable {r : PendingReaction} {more : List PendingReaction}

/-- The state after the service of a reaction whose work leaves this agenda and this state. -/
def afterReaction (more : List PendingReaction) (b : Agenda) (u : State) : State :=
  { idle (withAgenda b u) with reactions := { u.reactions with fifo := more } }

theorem exec_reactionSchedule (next : nextClaim s = some .reaction) (fifo : s.reactions.fifo = r :: more)
    (kind : r.kind = .schedule)
    (work : insertReaction (reactionInsertion r.time r.template) r.row s.timebase.time s.agenda = (b, ks))
    (reserve : b.reserve = s.agenda.reserve) (poolLow : b.poolLow = s.agenda.poolLow)
    (stands : (runTasks ks s).reactions = s.reactions) :
    exec (.reactionSchedule .whole) s = .next (afterReaction more b (runTasks ks s)) := by
  have own : servesSchedule (serviceFor .reaction s) s = true := by
    have oldest : (serviceFor .reaction s).record = some r := congrArg List.head? fifo
    unfold servesSchedule
    rw [oldest]
    exact decide_eq_true kind
  have planned : reactionPlan (some r) s.timebase.time s.agenda = (b, ks) := by
    unfold reactionPlan
    dsimp only
    rw [kind]
    exact work
  have tasks : ∀ k ∈ ks, agendaTask k := by
    have all := insertReaction_tasks (reactionInsertion r.time r.template) r.row s.timebase.time s.agenda
    rw [work] at all
    exact all
  refine congrArg Host.Outcome.next ((serviceRow_reaction next fifo own planned tasks).trans ?_)
  rw [publish_eq (by rw [runTasks_agenda]; exact reserve) (by rw [runTasks_agenda]; exact poolLow)]
  have tail : (runTasks ks s).reactions.fifo.tail = more := by
    rw [stands, fifo]
    rfl
  rw [tail]
  rfl

end

/-- The state after a SCHEDULE reaction that found a free slot, POOL_LOW set where `low` says so. -/
def reactedWith (e : Entry) (a : Agenda) (low : Bool) (more : List PendingReaction) (s : State) : State :=
  afterReaction more (reactionWork e s.timebase.time a).1
    (besides id id low (runTasks (reactionWork e s.timebase.time a).2 s))

theorem exec_reactionSchedule_cons {r : PendingReaction} {more : List PendingReaction}
    (next : nextClaim s = some .reaction) (fifo : s.reactions.fifo = r :: more) (kind : r.kind = .schedule)
    (free : s.agenda.free = slot :: rest) :
    exec (.reactionSchedule .whole) s = .next (reactedWith
      (buildEntry (reactionInsertion r.time r.template) (.reaction r.row) (newHandle s.agenda slot))
      (allocated s.agenda slot rest) (decide (rest.length < s.agenda.poolLow)) more s) := by
  have tasks := reactionWork_tasks
    (buildEntry (reactionInsertion r.time r.template) (.reaction r.row) (newHandle s.agenda slot)) s.timebase.time
    (allocated s.agenda slot rest)
  obtain ⟨reserve, poolLow⟩ := reactionWork_registers
    (buildEntry (reactionInsertion r.time r.template) (.reaction r.row) (newHandle s.agenda slot)) s.timebase.time
    (allocated s.agenda slot rest)
  have run := runTasks_allocated rest.length tasks s
  have frame := actFrame_reactionWork
    (buildEntry (reactionInsertion r.time r.template) (.reaction r.row) (newHandle s.agenda slot))
    (allocated s.agenda slot rest) s
  have service := exec_reactionSchedule next fifo kind (insertReaction_cons free) reserve poolLow (by
    rw [run]
    exact frame.reactions)
  rw [run] at service
  exact service

section
variable (e : Entry) (a : Agenda) (low : Bool) (more : List PendingReaction) (s : State)

/-- What the service leaves of the other blocks. -/
theorem reactedWith_frame :
    let t := reactedWith e a low more s
    t.reactions = { s.reactions with fifo := more } ∧ t.port = s.port ∧ t.arbiter.activity = none ∧
      t.timebase = s.timebase ∧ t.groups = s.groups ∧ t.irq.flags.poolLow = (s.irq.flags.poolLow || low) := by
  have frame := actFrame_reactionWork e a s
  exact ⟨congrArg (fun q => { q with fifo := more }) frame.reactions, frame.port, rfl, frame.timebase, frame.groups,
    congrArg (· || low) frame.poolLow⟩

theorem reactedWith_late (late : isLate e.due s.timebase.time = true) (fire : e.late = .fire) :
    ActsNow e a s (reactedWith e a low more s) := by
  unfold reactedWith
  rw [reactionWork_late late fire]
  have frame := actFrame_act e a s
  exact {
    agenda := rfl, lines := rfl, reports := rfl, rptLost := rfl, batch := rfl, batchEnd := rfl, apply := rfl
    timebase := frame.timebase, groups := frame.groups, capture := frame.capture, pins := frame.pins }

theorem reactedWith_placed (future : isLate e.due s.timebase.time = false) :
    let t := reactedWith e a low more s
    t.lines = s.lines ∧ t.reports = s.reports ∧ t.agenda = place e a := by
  unfold reactedWith
  rw [reactionWork_placed future]
  exact ⟨rfl, rfl, rfl⟩

theorem reactedWith_dropped (late : isLate e.due s.timebase.time = true) (drop : e.late = .drop) :
    let t := reactedWith e a low more s
    t.lines = s.lines ∧ t.agenda = freeSlot e.handle.slot a ∧
      (e.option = .none → t.reports = s.reports ∧ t.irq.flags.rptLost = s.irq.flags.rptLost) ∧
      (e.option ≠ .none → Offered [recordNow e .dropped true e.due e.missed s.timebase.time] s t) := by
  obtain ⟨told, lines⟩ := runTasks_recordOf e .dropped true e.due s.timebase.time s
  have tasks := runTasks_dropped e s.timebase.time s
  have offered := told.records.congr (boundaryGone_reports e.handle _) (boundaryGone_rptLost e.handle _)
  rw [← tasks] at offered
  unfold reactedWith
  rw [reactionWork_dropped late drop]
  refine ⟨?_, rfl, fun option => ?_, fun option => ?_⟩
  · exact (congrArg State.lines tasks).trans ((boundaryGone_lines _ _).trans lines)
  · have silent : recordOf e .dropped true e.due s.timebase.time = none := by
      unfold recordOf
      rw [option]
      rfl
    rw [silent]
    exact ⟨boundaryGone_reports e.handle s, boundaryGone_rptLost e.handle s⟩
  · have asks : asked e.option [recordNow e .dropped true e.due e.missed s.timebase.time] =
        [recordNow e .dropped true e.due e.missed s.timebase.time] := by
      cases o : e.option with
      | none => exact absurd o option
      | final | every => rfl
    rw [asks] at offered
    exact offered.congr rfl rfl

end

/-- Settles O44: with no slot free a record alone is offered; else the entry built acts, is placed or ends. -/
theorem reactionScheduleInserts : Obligations.ReactionScheduleInserts := by
  unfold Obligations.ReactionScheduleInserts
  intro s r more x next fifo kind template due job
  subst template
  cases free : s.agenda.free with
  | nil =>
    have told := reported_offer (noSlotReport (reactionInsertion r.time r.template) r.row s.timebase.time) s
    have frame := told.actFrame
    have service := exec_reactionSchedule next fifo kind (insertReaction_noSlot free) rfl rfl frame.reactions
    refine ⟨_, service, congrArg (fun q => { q with fifo := more }) frame.reactions, frame.port, rfl, frame.timebase,
      frame.groups, fun _ => ⟨rfl, offerReport_lines _ s, frame.poolLow, told.records.congr rfl rfl⟩,
      fun slot rest cons => nomatch cons⟩
  | cons slot rest =>
    obtain ⟨reactions, port, idle, timebase, groups, poolLow⟩ := reactedWith_frame
      (buildEntry (reactionInsertion r.time r.template) (.reaction r.row) (newHandle s.agenda slot))
      (allocated s.agenda slot rest) (decide (rest.length < s.agenda.poolLow)) more s
    refine ⟨_, exec_reactionSchedule_cons next fifo kind free, reactions, port, idle, timebase, groups,
      fun empty => (nomatch empty), ?_⟩
    intro slot' rest' cons
    cases cons
    exact ⟨poolLow, fun late fire => reactedWith_late _ _ _ more s late fire,
      fun future => reactedWith_placed _ _ _ more s future,
      fun late drop => reactedWith_dropped _ _ _ more s late drop⟩

end Sys2Proof.Machine
end

section
/-! Chapter The Agenda: removals, of one entry by CANCEL and of many by CANCEL_TAG and a purge (R41 to R43, R48). -/

-- Each lemma waits for the ones before it: elaborated side by side they hold a thread each.
set_option Elab.async false

namespace Sys2Proof.Machine

variable {s t u v : State} {a b : Agenda} {ks : List Task} {e : Entry} {l : List Entry} {kind : ReportKind}

/-! ## The removal of one entry (R41, R42, R48) -/

theorem closePulses_cons (e : Entry) (l : List Entry) (s : State) :
    closePulses (e :: l) s = closePulses l (closePulses [e] s) := rfl

theorem runTasks_closePulse (e : Entry) (s : State) :
    runTasks (closePulse e.job) s = closePulses [e] s ∧ Reported [] s (closePulses [e] s) ∧
      (closePulses [e] s).reports = s.reports := by
  unfold closePulses
  rw [List.foldl_cons, List.foldl_nil]
  cases e.job with
  | drive | mark => exact ⟨rfl, Reported.refl s, rfl⟩
  | pulse n w p =>
    cases p with
    | assertAct => exact ⟨rfl, Reported.refl s, rfl⟩
    | returnAct => exact ⟨rfl, reported_request n .inactive s, request_reports n .inactive s⟩

theorem closePulses_out (out : inReturn e.job = false) (s : State) : closePulses [e] s = s := by
  unfold closePulses
  rw [List.foldl_cons, List.foldl_nil]
  generalize e.job = j at out
  cases j with
  | drive | mark => rfl
  | pulse n w p =>
    cases p with
    | assertAct => rfl
    | returnAct => cases out

theorem closePulses_returning {n : Fin 16} {w : Nat} (job : e.job = .pulse n w .returnAct) (s : State) :
    closePulses [e] s = (request n .inactive s).2 := by
  unfold closePulses
  rw [List.foldl_cons, List.foldl_nil, job]

/-- A removal closes the pulse, offers the record, and tells of the departure. -/
theorem runTasks_removalTasks (kind : ReportKind) (e : Entry) (s : State) : ∃ v,
    Reported (asked e.option [recordNow e kind true e.due e.missed s.timebase.time]) s v ∧
      v.lines = (closePulses [e] s).lines ∧ (e.option = .none → v.reports = s.reports) ∧
      runTasks (removalTasks kind s.timebase.time e) s = boundaryGone e.handle v := by
  obtain ⟨closed, first, reports⟩ := runTasks_closePulse e s
  obtain ⟨told, lines⟩ := runTasks_recordOf e kind true e.due s.timebase.time (closePulses [e] s)
  refine ⟨_, first.trans told, lines, fun option => ?_, ?_⟩
  · have silent : recordOf e kind true e.due s.timebase.time = none := by
      unfold recordOf
      rw [option]
      rfl
    rw [silent]
    exact reports
  · unfold removalTasks
    rw [runTasks_append, runTasks_append, closed]
    rfl

theorem asked_one (o : ReportOption) (e : Entry) (kind : ReportKind) (due now : Time) (missed : Nat) :
    asked o [recordNow e kind true due missed now] =
      if o = .none then [] else [recordNow e kind true due missed now] := by
  cases o <;> rfl

/-! ## CANCEL (R42, R180) -/

section
variable {p : Vector Word 8} {now : Time}

theorem cancelPlan_stale (stale : resolveIn (handleOfWord p[0]) a = .stale) :
    cancelPlan p now a = answer .stale [] a := by
  unfold cancelPlan
  rw [stale]

theorem cancelPlan_notPending (free : resolveIn (handleOfWord p[0]) a = .notPending) :
    cancelPlan p now a = answer .notPending [] a := by
  unfold cancelPlan
  rw [free]

theorem cancelPlan_pending (pending : resolveIn (handleOfWord p[0]) a = .pending e) :
    cancelPlan p now a = answered [] (cancelEntry e now a) := by
  unfold cancelPlan
  rw [pending]

end

/-- The state after a host service that removed these entries, with these result words. -/
def removedFor (words : List Word) (b : Agenda) (ks : List Task) (s : State) : State :=
  posted .ok words (hostServed (withAgenda b (runTasks ks s)))

theorem removed_port (words : List Word) (b : Agenda) (ks : List Task) (port : (runTasks ks s).port = s.port) :
    (removedFor words b ks s).port =
      { s.port with waiting := false, result := .ok, held := none, res := writeRes words s.port.res } := by
  rw [← port]
  rfl

/-- Settles O35: the pending entry is removed, and the answer is OK. -/
theorem cancelServiceRemovesTheEntry : Obligations.CancelServiceRemovesTheEntry := by
  unfold Obligations.CancelServiceRemovesTheEntry
  intro s grant h
  have plan := hostPlan_cancel (reserve := s.agenda.reserve) (now := s.timebase.time) (a := s.agenda) grant.2
  refine ⟨fun stale => serviceRow_answers grant (plan.trans (cancelPlan_stale stale)),
    fun free => serviceRow_answers grant (plan.trans (cancelPlan_notPending free)), fun slots e mem handle => ?_⟩
  have pending : resolveIn h s.agenda = .pending e := (slots.1.resolveIn_pending h).2 ⟨mem, handle⟩
  have slot : e.handle.slot = h.slot := congrArg Handle.slot handle
  have work := plan.trans (cancelPlan_pending pending)
  have agenda : (cancelEntry e s.timebase.time s.agenda).1 = { s.agenda with
      list := s.agenda.list.filter (fun x => x.handle.slot != h.slot), free := s.agenda.free ++ [h.slot] } := by
    unfold cancelEntry
    rw [slot, slots.1.takeOut_eq]
    rfl
  have service := serviceRow_host (ks := (cancelEntry e s.timebase.time s.agenda).2) grant work
    (removalTasks_task _ _ _)
  rw [publish_eq (by rw [agenda, runTasks_agenda]) (by rw [agenda, runTasks_agenda])] at service
  obtain ⟨v, told, lines, silent, tasks⟩ := runTasks_removalTasks .cancelled e s
  have frame := told.actFrame.boundaryGone e.handle
  have offered := told.records.congr (boundaryGone_reports e.handle v) (boundaryGone_rptLost e.handle v)
  have gone := told.gone e.handle
  have after := (boundaryGone_lines e.handle v).trans lines
  have reports := fun option => (boundaryGone_reports e.handle v).trans (silent option)
  rw [← tasks] at frame offered gone after reports
  refine ⟨_, congrArg Host.Outcome.next service, agenda, ?_, rfl, fun out => ?_, fun l w job => ?_, fun option => ?_,
    fun option => ?_, ?_, frame.timebase, frame.groups, frame.capture, frame.reactions, frame.pins⟩
  · have port := removed_port [] (cancelEntry e s.timebase.time s.agenda).1 (removalTasks .cancelled s.timebase.time e)
      frame.port
    rw [writeRes_nil] at port
    exact port
  · exact after.trans (congrArg State.lines (closePulses_out out s))
  · exact after.trans (congrArg State.lines (closePulses_returning job s))
  · exact reports option
  · rw [asked_one, if_neg option] at offered
    exact offered.congr rfl rfl
  · rw [handle] at gone
    exact ⟨gone.watched, gone.notWatched⟩

/-! ## The removal of many entries (R43, R48) -/

theorem closePulses_timebase (e : Entry) (s : State) : (closePulses [e] s).timebase = s.timebase := by
  obtain ⟨-, told, -⟩ := runTasks_closePulse e s
  exact told.actFrame.timebase

theorem closePulses_lines (lines : t.lines = s.lines) (time : t.timebase = s.timebase) (l : List Entry) :
    (closePulses l t).lines = (closePulses l s).lines := by
  have one (e : Entry) (s t : State) (lines : t.lines = s.lines) (time : t.timebase = s.timebase) :
      (closePulses [e] t).lines = (closePulses [e] s).lines ∧
        (closePulses [e] t).timebase = (closePulses [e] s).timebase := by
    by_cases back : inReturn e.job = true
    · obtain ⟨n, w, job⟩ : ∃ n w, e.job = .pulse n w .returnAct := by
        cases job : e.job with
        | drive | mark => rw [job] at back; cases back
        | pulse n w p =>
          cases p with
          | assertAct => rw [job] at back; cases back
          | returnAct => exact ⟨n, w, rfl⟩
      rw [closePulses_returning job, closePulses_returning job, request_timebase, request_timebase,
        request_congr (l := n) (r := .inactive) lines time]
      exact ⟨rfl, time⟩
    · rw [closePulses_out (eq_false_of_ne_true back), closePulses_out (eq_false_of_ne_true back)]
      exact ⟨lines, time⟩
  induction l generalizing s t with
  | nil => exact lines
  | cons e l ih =>
    obtain ⟨lines', time'⟩ := one e s t lines time
    rw [closePulses_cons, closePulses_cons e l s]
    exact ih lines' time'

/-- What the removal of these entries in order leaves of a state. -/
structure Removes (kind : ReportKind) (l : List Entry) (s u : State) : Prop where
  frame : ActFrame s u
  arbiter : u.arbiter = s.arbiter
  lines : u.lines = (closePulses l s).lines
  records : Offered (removalRecords kind l s) s u
  watched : (∃ e ∈ l, s.batch.watch = some e.handle) →
    u.batch = abandonedBatch s.batch ∧ u.irq.flags.batchEnd = true
  notWatched : (∀ e ∈ l, s.batch.watch ≠ some e.handle) →
    u.batch = s.batch ∧ u.irq.flags.batchEnd = s.irq.flags.batchEnd

theorem removalRecords_cons (kind : ReportKind) (e : Entry) (l : List Entry) (s : State) :
    removalRecords kind (e :: l) s =
      asked e.option [recordNow e kind true e.due e.missed s.timebase.time] ++ removalRecords kind l s := by
  rw [asked_one]
  unfold removalRecords
  by_cases option : e.option = .none
  · rw [if_pos option, List.filter_cons_of_neg (by simp [option])]
    rfl
  · rw [if_neg option, List.filter_cons_of_pos (by simp [option])]
    rfl

theorem removalRecords_congr (kind : ReportKind) (l : List Entry) (time : t.timebase = s.timebase) :
    removalRecords kind l t = removalRecords kind l s := by
  unfold removalRecords
  rw [time]

theorem ActFrame.trans (h : ActFrame s t) (k : ActFrame t u) : ActFrame s u := by
  unfold ActFrame at *
  rw [h] at k
  exact k

theorem removes_flatMap (kind : ReportKind) (l : List Entry) (s : State) :
    Removes kind l s (runTasks (l.flatMap (removalTasks kind s.timebase.time)) s) := by
  induction l generalizing s with
  | nil =>
    exact {
      frame := (Reported.refl s).actFrame, arbiter := rfl, lines := rfl, records := offered_nil rfl rfl
      watched := fun ⟨_, mem, _⟩ => nomatch mem
      notWatched := fun _ => ⟨rfl, rfl⟩ }
  | cons e l ih =>
    obtain ⟨v, told, lines, -, tasks⟩ := runTasks_removalTasks kind e s
    have frame := told.actFrame.boundaryGone e.handle
    have offered := told.records.congr (boundaryGone_reports e.handle v) (boundaryGone_rptLost e.handle v)
    have gone := told.gone e.handle
    have after := (boundaryGone_lines e.handle v).trans lines
    have arbiter := (boundaryGone_arbiter e.handle v).trans told.arbiter
    have rest := ih (boundaryGone e.handle v)
    generalize boundaryGone e.handle v = u at *
    rw [frame.timebase] at rest
    rw [List.flatMap_cons, runTasks_append, tasks]
    generalize runTasks _ u = w at *
    exact {
      frame := frame.trans rest.frame
      arbiter := rest.arbiter.trans arbiter
      lines := by
        rw [rest.lines, closePulses_cons]
        exact closePulses_lines after (frame.timebase.trans (closePulses_timebase e s).symm) l
      records := by
        have more := rest.records
        rw [removalRecords_congr kind l frame.timebase] at more
        rw [removalRecords_cons]
        exact offered.append more
      watched := by
        rintro ⟨x, mem, watch⟩
        by_cases first : s.batch.watch = some e.handle
        · obtain ⟨batch, -, batchEnd⟩ := gone.watched first
          obtain ⟨stands, kept⟩ := rest.notWatched fun y _ other => by
            rw [batch] at other
            cases other
          exact ⟨stands.trans batch, kept.trans batchEnd⟩
        · obtain ⟨batch, -, -⟩ := gone.notWatched first
          obtain rfl | later := List.mem_cons.1 mem
          · exact absurd watch first
          · have ends := rest.watched ⟨x, later, by rw [batch]; exact watch⟩
            rw [batch] at ends
            exact ends
      notWatched := fun none => by
        obtain ⟨batch, -, batchEnd⟩ := gone.notWatched (none e List.mem_cons_self)
        obtain ⟨stands, kept⟩ := rest.notWatched fun y mem => by
          rw [batch]
          exact none y (List.mem_cons_of_mem _ mem)
        exact ⟨stands.trans batch, kept.trans batchEnd⟩ }

/-- The agenda without the entries that `p` holds of, their slots free (R43, R48). -/
def removedAgenda (p : Entry → Bool) (a : Agenda) : Agenda := { a with
  list := a.list.filter (fun e => !p e)
  free := a.free ++ (a.list.filter p).map (fun e => e.handle.slot) }

/-- A service whose other work is a removal leaves what a statement says of one. -/
theorem Removes.removedWhere {p : Entry → Bool} (k : Removes kind (s.agenda.list.filter p) s u)
    (agenda : t.agenda = removedAgenda p s.agenda) (lines : t.lines = u.lines) (reports : t.reports = u.reports)
    (rptLost : t.irq.flags.rptLost = u.irq.flags.rptLost) (batch : t.batch = u.batch)
    (batchEnd : t.irq.flags.batchEnd = u.irq.flags.batchEnd) (timebase : t.timebase = u.timebase)
    (capture : t.capture = u.capture) (pins : t.pins = u.pins) : RemovedWhere p kind s t where
  agenda := agenda
  records := k.records.congr reports rptLost
  lines := lines.trans k.lines
  watched e mem holds watch := by
    obtain ⟨abandoned, told⟩ := k.watched ⟨e, List.mem_filter.2 ⟨mem, holds⟩, watch⟩
    exact ⟨batch.trans abandoned, batchEnd.trans told⟩
  notWatched none := by
    obtain ⟨stands, kept⟩ := k.notWatched fun e mem => none e (List.mem_filter.1 mem).1 (List.mem_filter.1 mem).2
    exact ⟨batch.trans stands, batchEnd.trans kept⟩
  timebase := timebase.trans k.frame.timebase
  capture := capture.trans k.frame.capture
  pins := pins.trans k.frame.pins

theorem publish_removed (p : Entry → Bool) (ks : List Task) (s : State) :
    publish (removedAgenda p s.agenda) (runTasks ks s) = withAgenda (removedAgenda p s.agenda) (runTasks ks s) :=
  publish_eq (by rw [runTasks_agenda]; rfl) (by rw [runTasks_agenda]; rfl)

theorem flatMap_removalTasks_task (kind : ReportKind) (now : Time) (l : List Entry) :
    ∀ k ∈ l.flatMap (removalTasks kind now), agendaTask k := by
  intro k mem
  obtain ⟨e, -, mem⟩ := List.mem_flatMap.1 mem
  exact removalTasks_task kind now e k mem

theorem writeRes_one (w : Word) (res : Vector Word 8) : writeRes [w] res = res.set 0 w := by
  ext k h
  cases k with
  | zero => simp [writeRes]
  | succ k => simp [writeRes]

/-- Settles O36: the tag's entries are removed, for the host and for a reaction alike. -/
theorem cancelByTagRemovesEveryEntryOfTheTag : Obligations.CancelByTagRemovesEveryEntryOfTheTag := by
  unfold Obligations.CancelByTagRemovesEveryEntryOfTheTag
  refine ⟨fun s grant => ?_, fun s r more tag next fifo isCancel sameTag => ?_⟩
  · intro tag
    have plan := hostPlan_cancelTag (reserve := s.agenda.reserve) (now := s.timebase.time) (a := s.agenda) grant.2
    let p : Entry → Bool := fun e => e.tag == tag
    have removes := removes_flatMap .cancelled (s.agenda.list.filter p) s
    have service := serviceRow_host (a := removedAgenda p s.agenda)
      (words := [BitVec.ofNat 16 (s.agenda.list.filter p).length])
      (ks := (s.agenda.list.filter p).flatMap (removalTasks .cancelled s.timebase.time)) grant plan
      (flatMap_removalTasks_task _ _ _)
    rw [publish_removed p] at service
    have port := removed_port [BitVec.ofNat 16 (s.agenda.list.filter p).length] (removedAgenda p s.agenda) _
      removes.frame.port
    rw [writeRes_one] at port
    refine ⟨_, congrArg Host.Outcome.next service,
      removes.removedWhere rfl rfl rfl rfl rfl rfl rfl rfl rfl, port, rfl, ?_, removes.frame.groups,
      removes.frame.reactions⟩
    exact congrArg (fun x => { x with host := false, activity := none }) removes.arbiter
  · let p : Entry → Bool := fun e => e.tag == tag
    have removes := removes_flatMap .cancelled (s.agenda.list.filter p) s
    have own : servesCancelTag (serviceFor .reaction s) s = true := by
      have oldest : (serviceFor .reaction s).record = some r := congrArg List.head? fifo
      unfold servesCancelTag
      rw [oldest]
      exact decide_eq_true isCancel
    have planned : reactionPlan (some r) s.timebase.time s.agenda = (removedAgenda p s.agenda,
        (s.agenda.list.filter p).flatMap (removalTasks .cancelled s.timebase.time)) := by
      unfold reactionPlan
      dsimp only
      rw [isCancel, sameTag]
      rfl
    have service := serviceRow_reaction next fifo own planned (flatMap_removalTasks_task _ _ _)
    rw [publish_removed p] at service
    have tail : (runTasks ((s.agenda.list.filter p).flatMap (removalTasks .cancelled s.timebase.time)) s).reactions =
        s.reactions := removes.frame.reactions
    refine ⟨_, congrArg Host.Outcome.next service,
      removes.removedWhere rfl rfl rfl rfl rfl rfl rfl rfl rfl, ?_, removes.frame.port, ?_, ?_, removes.frame.groups⟩
    · rw [tail, fifo]
      rfl
    · exact removes.frame.cmdDone
    · exact congrArg (fun x => { x with activity := none }) removes.arbiter

/-! ## A purge (R48) -/

theorem inGroup_eq (g : Fin 4) : inGroup g = fun e =>
    match jobLine e.job with | some l => l.val / 4 == g.val | none => false := by
  have group : ∀ (g : Fin 4) (l : Fin 16), (groupOf l == g) = (l.val / 4 == g.val) := by decide
  funext e
  unfold inGroup
  cases jobLine e.job with
  | none => rfl
  | some l => exact group g l

/-- Settles O40: the walk removes the entries on the group's lines, and its count is recorded. -/
theorem purgeRemovesTheGroupsEntries : Obligations.PurgeRemovesTheGroupsEntries := by
  unfold Obligations.PurgeRemovesTheGroupsEntries
  intro s g next onGroup
  have group : onGroup = inGroup g := (inGroup_eq g).symm
  clear_value onGroup
  subst group
  have removes := removes_flatMap .purged (s.agenda.list.filter (inGroup g)) s
  have service := serviceRow_purge (a := removedAgenda (inGroup g) s.agenda)
    (n := (s.agenda.list.filter (inGroup g)).length)
    (ks := (s.agenda.list.filter (inGroup g)).flatMap (removalTasks .purged s.timebase.time)) next rfl
    (flatMap_removalTasks_task _ _ _)
  rw [publish_removed] at service
  have frame := removes.frame
  have groups := frame.groups
  have arbiter := removes.arbiter
  have raised := congrArg Arbiter.apply arbiter
  have waiting := congrArg Arbiter.host arbiter
  refine ⟨_, congrArg Host.Outcome.next service, removes.removedWhere rfl rfl rfl rfl rfl rfl rfl rfl rfl, ?_,
    fun j other => ⟨?_, ?_⟩, ?_, rfl, raised, waiting, frame.port,
    frame.reactions⟩
  · rw [groups]
    exact (getElem_set_fin s.groups g g _).trans (if_pos rfl)
  · rw [groups]
    exact (getElem_set_fin s.groups g j _).trans (if_neg other)
  · rw [arbiter]
    exact (getElem_set_fin s.arbiter.purge g j false).trans (if_neg other)
  · rw [arbiter]
    exact (getElem_set_fin s.arbiter.purge g g false).trans (if_pos rfl)

end Sys2Proof.Machine
end

section
/-! Chapter Batches: the edits of a batch judged and made, and the apply that makes all of them or none (R150 to
R155). -/

-- Each lemma waits for the ones before it: elaborated side by side they hold a thread each.
set_option Elab.async false

namespace Sys2Proof.Machine

variable {s t u : State} {a b : Agenda} {ks : List Task} {e : Entry} {i : Insertion} {now due : Time}
  {check : Option BatchReason} {slot : BitVec 8} {rest : List (BitVec 8)} {h : Handle} {r : BatchReason}

/-! ## One edit (R151) -/

section
variable (taken : ¬ (isLate i.due now = true ∧ i.late = .drop))
include taken

theorem makeEdit_insert_refused (refuses : check = some r) : makeEdit now check (.insert i) a = .error r := by
  refine (if_neg fun late => taken (lateUnderDrop_iff.1 late)).trans ?_
  rw [refuses]

theorem makeEdit_insert_passed (passes : check = none) (free : a.free = slot :: rest) :
    makeEdit now check (.insert i) a =
      let w := placeOrAct (buildEntry i .batch (newHandle a slot)) now (allocated a slot rest)
      .ok (newHandle a slot, w.1, .allocated rest.length :: w.2) := by
  refine (if_neg fun late => taken (lateUnderDrop_iff.1 late)).trans ?_
  rw [passes]
  dsimp only
  rw [insertEntry_cons _ free]

theorem makeEdit_insert_empty (passes : check = none) (free : a.free = []) :
    makeEdit now check (.insert i) a = .error .noSlot := by
  refine (if_neg fun late => taken (lateUnderDrop_iff.1 late)).trans ?_
  rw [passes]
  dsimp only
  unfold insertEntry
  rw [allocate_eq_none.2 free]
  rfl

end

theorem makeEdit_insert_late (late : isLate i.due now = true ∧ i.late = .drop) :
    makeEdit now check (.insert i) a = .error .late := if_pos (lateUnderDrop_iff.2 late)

theorem makeEdit_insert_late_iff : makeEdit now check (.insert i) a = .error .late ↔
    isLate i.due now = true ∧ i.late = .drop ∨
      ¬ (isLate i.due now = true ∧ i.late = .drop) ∧ check = some .late := by
  by_cases drop : isLate i.due now = true ∧ i.late = .drop
  · exact iff_of_true (makeEdit_insert_late drop) (.inl drop)
  refine ⟨fun late => .inr ⟨drop, ?_⟩, fun late => ?_⟩
  · cases checked : check with
    | some r =>
      rw [makeEdit_insert_refused drop checked] at late
      cases late
      rfl
    | none =>
      cases free : a.free with
      | nil =>
        rw [makeEdit_insert_empty drop checked free] at late
        cases late
      | cons slot rest =>
        rw [makeEdit_insert_passed drop checked free] at late
        cases late
  · obtain late | ⟨-, refuses⟩ := late
    · exact absurd late drop
    · exact makeEdit_insert_refused drop refuses

theorem makeEdit_stale (stale : resolveIn h a = .stale) :
    makeEdit now check (.cancel h) a = .error .stale ∧ makeEdit now check (.retime h due) a = .error .stale := by
  unfold makeEdit
  dsimp only
  rw [stale]
  exact ⟨rfl, rfl⟩

theorem makeEdit_notPending (free : resolveIn h a = .notPending) :
    makeEdit now check (.cancel h) a = .error .notPending ∧
      makeEdit now check (.retime h due) a = .error .notPending := by
  unfold makeEdit
  dsimp only
  rw [free]
  exact ⟨rfl, rfl⟩

section
variable (pending : resolveIn h a = .pending e)
include pending

theorem makeEdit_cancel : makeEdit now check (.cancel h) a = .ok (h, cancelEntry e now a) := by
  unfold makeEdit
  dsimp only
  rw [pending]

theorem makeEdit_retime :
    makeEdit now check (.retime h due) a = (retimeEntry e due now a).map fun w => (h, w) := by
  unfold makeEdit
  dsimp only
  rw [pending]

end

theorem closePulse_eq (j : Job) : closePulse j =
    (match j with
      | .pulse l _ .returnAct => [Task.request l .inactive none]
      | _ => []) := by
  cases j with
  | drive | mark => rfl
  | pulse l w p => cases p <;> rfl

theorem removalTasks_eq (kind : ReportKind) (now : Time) (e : Entry) : removalTasks kind now e =
    closePulse e.job ++ (asked e.option [recordNow e kind true e.due e.missed now]).map Task.offer ++
      [.gone e.handle] := by
  have offers : ((recordOf e kind true e.due now).map Task.offer).toList =
      (asked e.option [recordNow e kind true e.due e.missed now]).map Task.offer := by
    rw [← recordOf_toList]
    cases recordOf e kind true e.due now <;> rfl
  rw [← offers]
  rfl

/-! ## The edits in order (R152 to R154) -/

theorem makeEdits_cons_error {d : Edit} {ds : List Edit} {k : Nat} (fails : makeEdit now check d a = .error r) :
    makeEdits now check (d :: ds) k a = .error (k, r) := by
  rw [makeEdits, fails]

section
variable {d : Edit} {ds : List Edit} {k : Nat} {w : Work} (made : makeEdit now check d a = .ok (h, w))
include made

theorem makeEdits_cons_rest_error {x : Nat × BatchReason}
    (fails : makeEdits now (if isInsertEdit d then none else check) ds (k + 1) w.1 = .error x) :
    makeEdits now check (d :: ds) k a = .error x := by
  rw [makeEdits, made]
  dsimp only
  rw [fails]

theorem makeEdits_cons_rest_ok {hs : List Handle} {v : Work}
    (rest : makeEdits now (if isInsertEdit d then none else check) ds (k + 1) w.1 = .ok (hs, v)) :
    makeEdits now check (d :: ds) k a = .ok (h :: hs, v.1, w.2 ++ v.2) := by
  rw [makeEdits, made]
  dsimp only
  rw [rest]

end

/-- A batch that is made has a handle for each edit. -/
theorem makeEdits_length {ds : List Edit} {k : Nat} {hs : List Handle} {w : Work}
    (made : makeEdits now check ds k a = .ok (hs, w)) : hs.length = ds.length := by
  induction ds generalizing check k hs a w with
  | nil =>
    cases made
    rfl
  | cons d ds ih =>
    cases first : makeEdit now check d a with
    | error r =>
      rw [makeEdits_cons_error first] at made
      cases made
    | ok hw =>
      cases others : makeEdits now (if isInsertEdit d then none else check) ds (k + 1) hw.2.1 with
      | error x =>
        rw [makeEdits_cons_rest_error first others] at made
        cases made
      | ok v =>
        rw [makeEdits_cons_rest_ok first others] at made
        cases made
        exact congrArg (· + 1) (ih others)

/-- A batch that fails fails at its first edit that does, judged on what the edits before it leave. -/
theorem makeEdits_error {ds : List Edit} {j k : Nat} (fails : makeEdits now check ds j a = .error (k, r)) :
    ∃ m, k = j + m ∧ m < ds.length ∧ ∃ hs w d, makeEdits now check (ds.take m) j a = .ok (hs, w) ∧
      ds[m]? = some d ∧ makeEdit now (if (ds.take m).any isInsertEdit then none else check) d w.1 = .error r := by
  induction ds generalizing check j a with
  | nil => cases fails
  | cons d ds ih =>
    cases first : makeEdit now check d a with
    | error x =>
      rw [makeEdits_cons_error first] at fails
      cases fails
      exact ⟨0, rfl, Nat.succ_pos _, [], (a, []), d, rfl, rfl, first⟩
    | ok hw =>
      obtain ⟨h, w⟩ := hw
      cases others : makeEdits now (if isInsertEdit d then none else check) ds (j + 1) w.1 with
      | ok v =>
        rw [makeEdits_cons_rest_ok first others] at fails
        cases fails
      | error x =>
        rw [makeEdits_cons_rest_error first others] at fails
        cases fails
        obtain ⟨m, index, before, hs, v, d', made, at_m, judged⟩ := ih others
        refine ⟨m + 1, by omega, Nat.succ_lt_succ before, h :: hs, _, d', makeEdits_cons_rest_ok first made, at_m, ?_⟩
        rw [List.take_succ_cons, List.any_cons]
        by_cases insert : isInsertEdit d = true
        · rw [if_pos insert, ite_self] at judged
          rw [insert, Bool.true_or, if_pos rfl]
          exact judged
        · rw [if_neg insert] at judged
          rw [eq_false_of_ne_true insert, Bool.false_or]
          exact judged

/-! ## The apply (R150, R153 to R155) -/

/-- What every task of agenda work keeps, agenda work keeps. -/
theorem runTasks_agendaTasks_inv {P : State → Prop} (step : ∀ k s, agendaTask k → P s → P (runTask k s).1)
    (work : ∀ k ∈ ks, agendaTask k) (p : P s) : P (runTasks ks s) := by
  have offers : ∀ (ms : List Task) (u : State), (∀ m ∈ ms, agendaTask m) → P u →
      P (ms.foldl (fun v m => (runTask m v).1) u) := by
    intro ms
    induction ms with
    | nil => exact fun u _ p => p
    | cons m ms ih =>
      exact fun u each p => ih _ (fun k mem => each k (List.mem_cons_of_mem _ mem))
        (step m u (each m List.mem_cons_self) p)
  induction ks generalizing s with
  | nil => exact p
  | cons k ks ih =>
    exact ih (fun m mem => work m (List.mem_cons_of_mem _ mem))
      (offers _ _ (runTask_more_agendaTask k s) (step k s (work k List.mem_cons_self) p))

/-- The lines, the reports and the flags alone may have changed. -/
def EditFrame (s t : State) : Prop := t = { s with lines := t.lines, reports := t.reports, irq := t.irq }

theorem EditFrame.trans (first : EditFrame s t) (second : EditFrame t u) : EditFrame s u := by
  unfold EditFrame at *
  rw [first] at second
  exact second

theorem Reported.editFrame {rs : List Report} (told : Reported rs s t) : EditFrame s t := by
  have frame := told.frame
  unfold EditFrame
  rw [frame]

/-- Agenda work of a batch with no boundary entry watched. -/
theorem editFrame_runTasks (work : ∀ k ∈ ks, agendaTask k) (unwatched : s.batch.watch = none) :
    EditFrame s (runTasks ks s) := by
  refine runTasks_agendaTasks_inv (P := EditFrame s) (fun k t task frame => frame.trans ?_) work rfl
  have other (h : Handle) : t.batch.watch ≠ some h := by
    rw [frame]
    exact fun watch => by cases unwatched.symm.trans watch
  cases k with
  | request l q x => exact (reported_request l q t).editFrame
  | offer q => exact (reported_offer q t).editFrame
  | allocated free =>
    rw [runTask_allocated]
    rfl
  | acted h =>
    change EditFrame t (boundaryAct h t)
    rw [boundaryAct_other (other h)]
    exact (Reported.refl t).editFrame
  | gone h =>
    change EditFrame t (boundaryGone h t)
    rw [boundaryGone_other (other h)]
    exact (Reported.refl t).editFrame
  | purged | resetMoment | endBatch | complete => exact absurd task id

theorem insertCount_eq (ds : List Edit) : insertCount ds =
    (ds.filter (fun e => match e with | .insert _ => true | _ => false)).length := by
  have same : isInsertEdit = fun e => match e with | .insert _ => true | _ => false := by
    funext d
    cases d <;> rfl
  exact congrArg (fun p => (ds.filter p).length) same

/-- The work of an apply by the edits made (R150 to R155). -/
theorem applyBatch_failed {ds : List Edit} {reserve k : Nat}
    (fails : makeEdits now (slotCheck (insertCount ds) reserve a.free.length) ds 0 a = .error (k, r)) :
    applyBatch ds reserve now a = (a, [.endBatch (.failed k r (failedResults ds.length k r))]) := by
  unfold applyBatch
  dsimp only
  rw [fails]

theorem applyBatch_applied {ds : List Edit} {reserve : Nat} {hs : List Handle} {w : Work}
    (made : makeEdits now (slotCheck (insertCount ds) reserve a.free.length) ds 0 a = .ok (hs, w)) :
    applyBatch ds reserve now a =
      (w.1, w.2 ++ [.endBatch (.applied (List.zipWith (appliedResult w.1) ds hs))]) := by
  unfold applyBatch
  dsimp only
  rw [made]

theorem failedResults_eq (n k : Nat) (r : BatchReason) : failedResults n k r =
    (List.range n).map fun m =>
      { outcome := if m = k then reasonResult r else .none, disposition := none, handle := none } := by
  refine List.map_congr_left fun m _ => ?_
  split <;> rfl

/-- The result of an edit of an applied batch (R155). -/
theorem appliedResult_eq (a : Agenda) : appliedResult a = fun e h =>
    { outcome := .ok
      disposition := (match e with
        | .cancel _ => none
        | _ => some (if isPending h a then .pending else .done))
      handle := some h } := by
  funext d h
  cases d <;> rfl

theorem appliedResult_pending (pending : isPending h a = true) : appliedResult a (.insert i) h =
    { outcome := .ok, disposition := some .pending, handle := some h } :=
  congrArg (fun d => EditResult.mk .ok (some d) (some h)) (if_pos pending)

section
variable (next : nextClaim s = some .apply)
include next

theorem exec_batchApply_failed {k : Nat}
    (fails : makeEdits s.timebase.time (slotCheck (insertCount s.batch.staging) s.agenda.reserve s.agenda.free.length)
      s.batch.staging 0 s.agenda = .error (k, r)) :
    exec (.batchApply .whole) s = .next
      { s with
        batch := { s.batch with
          state := .failed, failing := k, reason := some r
          results := failedResults s.batch.staging.length k r }
        arbiter := { s.arbiter with apply := false, activity := none }
        irq := { s.irq with flags := { s.irq.flags with batchEnd := true } } } :=
  congrArg Host.Outcome.next (serviceRow_apply (ks := []) next (applyBatch_failed fails) fun _ => rfl)

/-- The apply of a batch whose edits are all made. -/
theorem exec_batchApply_applied {hs : List Handle} {w : Work}
    (made : makeEdits s.timebase.time (slotCheck (insertCount s.batch.staging) s.agenda.reserve s.agenda.free.length)
      s.batch.staging 0 s.agenda = .ok (hs, w))
    (apart : ∀ f : Arbiter → Arbiter, runTasks w.2 (besides f id false s) = besides f id false (runTasks w.2 s)) :
    exec (.batchApply .whole) s = .next
      { endBatch (.applied (List.zipWith (appliedResult w.1) s.batch.staging hs))
          (withAgenda w.1 (runTasks w.2 s)) with
        arbiter := { (runTasks w.2 s).arbiter with apply := false, activity := none } } := by
  obtain ⟨reserve, poolLow⟩ := (makeEdits_reworked (V := fun _ => True) (fun _ _ => trivial) made).registers
  have service := serviceRow_apply next (applyBatch_applied made) apart
  rw [publish_eq (by rw [runTasks_agenda]; exact reserve) (by rw [runTasks_agenda]; exact poolLow)] at service
  exact congrArg Host.Outcome.next service

end

/-- The tasks of a made batch are agenda work. -/
theorem makeEdits_agendaTasks {ds : List Edit} {k : Nat} {hs : List Handle} {w : Work}
    (made : makeEdits now check ds k a = .ok (hs, w)) : ∀ k ∈ w.2, agendaTask k :=
  makeEdits_tasks (fun _ _ _ _ _ edit => makeEdit_tasks edit) made

/-- The apply of a batch whose edits are all made, with no boundary entry watched. -/
theorem exec_batchApply_unwatched (next : nextClaim s = some .apply) {hs : List Handle} {w : Work}
    {results : List EditResult}
    (made : makeEdits s.timebase.time (slotCheck (insertCount s.batch.staging) s.agenda.reserve s.agenda.free.length)
      s.batch.staging 0 s.agenda = .ok (hs, w))
    (unwatched : s.batch.watch = none) (named : List.zipWith (appliedResult w.1) s.batch.staging hs = results) :
    exec (.batchApply .whole) s = .next
      { s with
        agenda := w.1
        lines := (runTasks w.2 s).lines
        reports := (runTasks w.2 s).reports
        batch := { s.batch with state := .applied, failing := 0, reason := none, results := results }
        arbiter := { s.arbiter with apply := false, activity := none }
        irq := { (runTasks w.2 s).irq with flags := { (runTasks w.2 s).irq.flags with batchEnd := true } } } := by
  have tasks := makeEdits_agendaTasks made
  have frame := editFrame_runTasks tasks unwatched
  refine (exec_batchApply_applied next made fun f => runTasks_besides_unwatched tasks unwatched).trans ?_
  rw [named]
  generalize runTasks w.2 s = u at frame
  unfold EditFrame at frame
  rw [frame]
  rfl

/-- The apply of one INSERT within the horizon that passes the slot check. -/
theorem exec_batchApply_one (next : nextClaim s = some .apply) (one : s.batch.staging = [.insert i])
    (future : isLate i.due s.timebase.time = false) (free : s.agenda.free = slot :: rest)
    (enough : s.agenda.reserve ≤ rest.length) :
    exec (.batchApply .whole) s = .next
      { endBatch (.applied [appliedResult (place (buildEntry i .batch (newHandle s.agenda slot))
            (allocated s.agenda slot rest)) (.insert i) (newHandle s.agenda slot)])
          (withAgenda (place (buildEntry i .batch (newHandle s.agenda slot)) (allocated s.agenda slot rest))
            (runTasks [.allocated rest.length] s)) with
        arbiter := { (runTasks [.allocated rest.length] s).arbiter with apply := false, activity := none } } := by
  have passes : slotCheck (insertCount s.batch.staging) s.agenda.reserve s.agenda.free.length = none := by
    rw [one]
    exact slotCheck_one_passes (by rw [free, List.length_cons]; omega)
  have first := makeEdit_insert_passed (i := i) (now := s.timebase.time) (a := s.agenda)
    (fun drop => by cases future.symm.trans drop.1) passes free
  rw [placeOrAct_placed (e := buildEntry i .batch (newHandle s.agenda slot)) future] at first
  have made := makeEdits_cons_rest_ok (ds := []) (k := 0) first rfl
  rw [← one] at made
  have service := exec_batchApply_applied next made fun f => runTask_allocated_besides rest.length s
  rw [one] at service
  exact service

/-- Settles O59: each edit by its case, the edits by the first of them, and the apply by what they make. -/
theorem batchAppliesAllEditsOrNone : Obligations.BatchAppliesAllEditsOrNone := by
  unfold Obligations.BatchAppliesAllEditsOrNone
  refine ⟨fun now check a => ⟨fun i => ⟨makeEdit_insert_late_iff, fun r taken refuses =>
      makeEdit_insert_refused taken refuses, fun slot free taken passes list => ?_⟩, fun h due => ⟨makeEdit_stale,
      makeEdit_notPending, fun e pending => ?_⟩⟩, fun now check k a => ⟨rfl, fun e es => ⟨fun r fails =>
      makeEdits_cons_error fails, fun h w made => ?_⟩⟩, fun s => ⟨rfl, fun x xs => rfl, fun r =>
      offerReport_offered r s, fun l q => rfl⟩, fun s next => ?_⟩
  · intro h e rest
    have made := makeEdit_insert_passed taken passes list
    refine ⟨fun future => made.trans ?_, fun late => made.trans ?_⟩
    · rw [placeOrAct_placed (e := buildEntry i .batch (newHandle a slot)) future]
      rfl
    · rw [placeOrAct_late (e := buildEntry i .batch (newHandle a slot)) late]
      rfl
  · obtain ⟨-, -, slot⟩ := resolveIn_eq_pending pending
    intro others moved
    have out : takeOut e.handle.slot a = others := by
      rw [slot]
      rfl
    refine ⟨?_, fun back => ?_, fun out late drop => ?_, fun inside late fire => ?_, fun inside future => ?_⟩
    · refine (makeEdit_cancel pending).trans (congrArg
        (fun w : Work => (Except.ok (h, w) : Except BatchReason (Handle × Work))) (Prod.ext ?_ ?_))
      · change freeSlot e.handle.slot (takeOut e.handle.slot a) = _
        rw [out, slot]
        rfl
      · exact (removalTasks_eq _ _ _).trans (congrArg (· ++ _ ++ _) (closePulse_eq e.job))
    · rw [makeEdit_retime pending, retimeEntry_returning back]
      rfl
    · rw [makeEdit_retime pending, retimeEntry_late out late drop]
      rfl
    · have taken : ¬ (isLate due now = true ∧ e.late = .drop) := fun drop => by cases fire.symm.trans drop.2
      rw [makeEdit_retime pending, retimeEntry_taken inside taken, out, placeOrAct_late (e := retimed e due) late]
      rfl
    · have taken : ¬ (isLate due now = true ∧ e.late = .drop) := fun drop => by cases future.symm.trans drop.1
      rw [makeEdit_retime pending, retimeEntry_taken inside taken, out, placeOrAct_placed (e := retimed e due) future]
      rfl
  · intro others
    have same : others = makeEdits now (if isInsertEdit e then none else check) es (k + 1) w.1 := by
      cases e <;> rfl
    clear_value others
    subst same
    exact ⟨fun x fails => makeEdits_cons_rest_error made fails, fun hs v rest => makeEdits_cons_rest_ok made rest⟩
  · intro edits now inserts free check
    have checked : check = slotCheck (insertCount edits) s.agenda.reserve free := by
      rw [insertCount_eq]
      rfl
    rw [checked]
    refine ⟨fun k r fails => ⟨?_, ?_⟩, fun hs w made unwatched => ⟨makeEdits_length made, ?_⟩,
      fun i slot rest one future list enough => ?_⟩
    · obtain ⟨m, index, before, parts⟩ := makeEdits_error fails
      rw [Nat.zero_add] at index
      subst index
      exact ⟨before, parts⟩
    · rw [← failedResults_eq]
      exact exec_batchApply_failed next fails
    · exact exec_batchApply_unwatched next made unwatched
        (congrArg (fun f => List.zipWith f edits hs) (appliedResult_eq w.1))
    · intro h
      have service := exec_batchApply_one next one future list enough
      refine ⟨_, service, rfl, fun _ => ?_, rfl⟩
      exact congrArg (fun x => [x]) (appliedResult_pending (i := i)
        (isPending_place (e := buildEntry i .batch (newHandle s.agenda slot)) (allocated_gens slot rest)))

end Sys2Proof.Machine
end

section
/-! The core-clock period of an empty queue (R1, R52, R53, R68, R79, R89, R109 to R113, R148). -/

-- Each lemma waits for the ones before it: elaborated side by side they hold a thread each.
set_option Elab.async false

namespace Sys2Proof.Machine

variable {s t : State} {v : Service} {e : Entry} {rest : List Entry} {c : Claim} {n m : Fin 8} {level : Bool}

/-! ## The timebase of a period (R1, R2, R79) -/

/-- The count of TCLK's samples after the sample of a period (R1). -/
def tclkCounted (p : Pins) : EdgeSamples :=
  if p.tclk then { p.tclkSamples with after := min 2 (p.tclkSamples.after + 1) }
  else if p.tclkSamples.after = 0 then
    { p.tclkSamples with before := min 2 (p.tclkSamples.before + 1) }
  else { before := 1, after := 0 }

/-- Whether the sample of a period takes a rising edge of TCLK (R1). -/
def tclkEdge (p : Pins) : Bool := p.tclk && decide (2 ≤ p.tclkSamples.before ∧ p.tclkSamples.after = 1)

theorem sampleTclk_eq (s : State) :
    sampleTclk s = (withPins { s.pins with tclkSamples := tclkCounted s.pins } s, tclkEdge s.pins) := by
  unfold sampleTclk takeSample tclkCounted tclkEdge
  cases s.pins.tclk with
  | true =>
    refine Prod.ext rfl ?_
    rw [Bool.true_and, Bool.decide_and]
    exact congrArg (_ && ·) (Bool.beq_eq_decide_eq _ _)
  | false =>
    by_cases none : s.pins.tclkSamples.after = 0
    · simp only [Bool.false_eq_true, if_false, if_pos none, Bool.false_and]
    · simp only [Bool.false_eq_true, if_false, if_neg none, Bool.false_and]

/-- The timebase after a counted source event (R2). -/
def countedOnce (x : Timebase) : Timebase :=
  if x.phase + 1 < x.prescaleField.toNat + 1 then { x with phase := x.phase + 1 }
  else { x with time := x.time + 1, phase := 0 }

/-- Whether the source event of a period is counted, with a rising edge of TCLK taken at it or not (R1). -/
def countsEvent (x : Timebase) (edge : Bool) : Bool :=
  x.running && (match x.source with | .internal => true | .external => edge)

/-- The timebase that a period leaves. -/
def periodTimebase (x : Timebase) (edge : Bool) : Timebase := if countsEvent x edge then countedOnce x else x

/-- Whether a pair's guard ends at this time. -/
def endsAt (u : LineUnit) (time : Time) (p : Fin 8) : Bool :=
  match u.pairs[p].running with
  | some d => d.endTime == time
  | none => false

theorem endReachedGuards_endsAt (s : State) :
    endReachedGuards s = withLines (guardsEnded (endsAt s.lines s.timebase.time) s.lines) s := endReachedGuards_eq s

theorem endsAt_guardsEnded (ends : Fin 8 → Bool) (u : LineUnit) (time : Time) (p : Fin 8) :
    endsAt (guardsEnded ends u) time p = (endsAt u time p && !ends p) := by
  unfold endsAt
  rw [guardsEnded_pair]
  cases ends p
  · rw [cond_false, Bool.not_false, Bool.and_true]
  · rw [Bool.not_true, Bool.and_false]
    rfl

/-- The line unit with the guards ended whose end time is one of two. -/
def guardsEndedAt (u : LineUnit) (before after : Time) : LineUnit :=
  guardsEnded (fun p => endsAt u before p || endsAt u after p) u

/-- The guard ends at one time, and then those at another. -/
theorem guardsEnded_twice (u : LineUnit) (before after : Time) :
    guardsEnded (endsAt (guardsEnded (endsAt u before) u) after) (guardsEnded (endsAt u before) u) =
      guardsEndedAt u before after := by
  rw [guardsEnded_guardsEnded]
  refine congrArg (fun f => guardsEnded f u) (funext fun p => ?_)
  rw [endsAt_guardsEnded]
  cases endsAt u before p <;> cases endsAt u after p <;> rfl

theorem guardsEndedAt_self (u : LineUnit) (time : Time) : guardsEndedAt u time time = guardsEnded (endsAt u time) u :=
  congrArg (fun f => guardsEnded f u) (funext fun _ => Bool.or_self _)

/-- Where TIME stands, the period's guard ends are those at TIME. -/
theorem endReachedGuards_standing {b : Timebase} (stands : b.time = s.timebase.time) :
    endReachedGuards (withTimebase b s) =
      withTimebase b (withLines (guardsEndedAt s.lines s.timebase.time b.time) s) := by
  rw [endReachedGuards_endsAt, stands, guardsEndedAt_self]
  rw [← stands]
  rfl

/-- A tick takes the guard ends left at the TIME before, and then those of its own TIME (R79, log 4). -/
theorem endReachedGuards_tick (s : State) :
    endReachedGuards (advanceTime s) =
      withTimebase { s.timebase with time := s.timebase.time + 1, phase := 0 }
        (withLines (guardsEndedAt s.lines s.timebase.time (s.timebase.time + 1)) s) := by
  rw [← guardsEnded_twice]
  have tick : advanceTime s = withTimebase { s.timebase with time := s.timebase.time + 1, phase := 0 }
      (withLines (guardsEnded (endsAt s.lines s.timebase.time) s.lines) s) := by
    unfold advanceTime
    rw [endReachedGuards_endsAt]
    rfl
  rw [tick, endReachedGuards_endsAt]
  rfl

/-- A source event of the selected source while RUNNING, and the guard ends it brings about. -/
theorem endReachedGuards_counted {src : TickSource} (running : s.timebase.running = true)
    (selected : s.timebase.source = src) :
    endReachedGuards (countSourceEvent src s) = withTimebase (countedOnce s.timebase)
      (withLines (guardsEndedAt s.lines s.timebase.time (countedOnce s.timebase).time) s) := by
  have counts : (s.timebase.running && decide (s.timebase.source = src)) = true := by
    rw [running, decide_eq_true selected]
    rfl
  unfold countSourceEvent countedOnce
  rw [if_pos counts]
  by_cases early : s.timebase.phase + 1 < s.timebase.prescaleField.toNat + 1
  · have notDue : ¬ tickDue s.timebase = true := fun due => by
      have := (tickDue_iff _).1 due
      omega
    rw [if_neg notDue, if_pos early]
    exact endReachedGuards_standing rfl
  · rw [if_pos ((tickDue_iff _).2 (by omega)), if_neg early]
    exact endReachedGuards_tick s

/-- The source events of one source do not touch the selection of another. -/
theorem countSourceEvent_source (src : TickSource) (s : State) :
    (countSourceEvent src s).timebase.source = s.timebase.source := by
  unfold countSourceEvent
  split
  · split
    · unfold advanceTime
      simp only [withTimebase_timebase, endReachedGuards_timebase]
    · rfl
  · rfl

/-- The source events of a period, and the guard ends they bring about (R1, R2, R79). -/
theorem endReachedGuards_sourceEvents (edge : Bool) (s : State) :
    endReachedGuards (if edge then countSourceEvent .external (countSourceEvent .internal s)
        else countSourceEvent .internal s) =
      withTimebase (periodTimebase s.timebase edge)
        (withLines (guardsEndedAt s.lines s.timebase.time (periodTimebase s.timebase edge).time) s) := by
  have stands : endReachedGuards s =
      withTimebase s.timebase (withLines (guardsEndedAt s.lines s.timebase.time s.timebase.time) s) :=
    endReachedGuards_standing (b := s.timebase) rfl
  unfold periodTimebase countsEvent
  cases running : s.timebase.running with
  | false =>
    have idle (src : TickSource) : countSourceEvent src s = s := countSourceEvent_idle (.inl running)
    rw [idle, idle, ite_self]
    exact stands
  | true =>
    cases source : s.timebase.source with
    | internal =>
      have other : countSourceEvent .external (countSourceEvent .internal s) = countSourceEvent .internal s :=
        countSourceEvent_idle (.inr (by rw [countSourceEvent_source, source]; decide))
      rw [other, ite_self]
      exact endReachedGuards_counted running source
    | external =>
      have other : countSourceEvent .internal s = s := countSourceEvent_idle (.inr (by rw [source]; decide))
      rw [other]
      cases edge with
      | false => exact stands
      | true => exact endReachedGuards_counted running source

/-- The timebase, the guards and the samples of TCLK that a period leaves (R1, R2, R79). -/
theorem clockTimebase_eq (s : State) : clockTimebase s =
    { s with
      timebase := periodTimebase s.timebase (tclkEdge s.pins)
      pins := { s.pins with tclkSamples := tclkCounted s.pins }
      lines := guardsEndedAt s.lines s.timebase.time (periodTimebase s.timebase (tclkEdge s.pins)).time } := by
  unfold clockTimebase
  rw [sampleTclk_eq]
  dsimp only
  rw [endReachedGuards_sourceEvents]
  simp only [withPins_timebase, withPins_lines]
  generalize periodTimebase s.timebase (tclkEdge s.pins) = b
  generalize guardsEndedAt s.lines s.timebase.time b.time = u
  rfl

/-! ## The inputs of a period (R109 to R111, R113) -/

/-- A sample leaves the other inputs. -/
theorem sampleInput_input (other : m ≠ n) : (sampleInput n level s).capture.inputs[m] = s.capture.inputs[m] := by
  have first (i : Input) : (setInput n i s).capture.inputs[m] = s.capture.inputs[m] :=
    (getElem_set_fin s.capture.inputs n m i).trans (if_neg other)
  unfold sampleInput
  dsimp only
  split
  · exact first _
  · split
    · split
      · exact first _
      · simp only [acceptChange_inputs]
        exact (getElem_set_fin _ n m _).trans ((if_neg other).trans (first _))
    · exact first _

/-- An input pin brought to the level it has. -/
theorem setInputPin_self (n : Fin 8) (s : State) : setInputPin n s.pins.inputs[n] s = s := by
  have same : s.pins.inputs.set n s.pins.inputs[n] = s.pins.inputs := Vector.set_getElem_self ..
  unfold setInputPin
  rw [same]
  rfl

/-- One input's sample of a period, by the settings and the pins that the period found. -/
def periodSample (moment : Bool) (found : CaptureUnit) (pins : Pins) (s : State) (n : Fin 8) : State :=
  if moment && found.inputs[n].enable && found.inputs[n].filter != 0 then filterStep n pins.inputs[n] s
  else afterCommand (.inputChange n pins.inputs[n]) s

/-- One input's sample of a period, by the settings and the pins as they stand then. -/
def presentSample (moment : Bool) (s : State) (n : Fin 8) : State :=
  if moment && isFiltered s.capture.inputs[n] then filterStep n s.pins.inputs[n] s
  else sampleInput n s.pins.inputs[n] s

theorem presentSample_input (moment : Bool) (other : m ≠ n) :
    (presentSample moment s n).capture.inputs[m] = s.capture.inputs[m] := by
  unfold presentSample
  split
  · exact filterStep_input other
  · exact sampleInput_input other

theorem presentSample_pins (moment : Bool) (s : State) (n : Fin 8) : (presentSample moment s n).pins = s.pins := by
  unfold presentSample
  split
  · exact filterStep_pins ..
  · exact sampleInput_pins ..

theorem presentSample_eq (moment : Bool) (found : CaptureUnit)
    (stands : s.capture.inputs[n] = found.inputs[n]) :
    presentSample moment s n = periodSample moment found s.pins s n := by
  have row : afterCommand (.inputChange n s.pins.inputs[n]) s = sampleInput n s.pins.inputs[n] s :=
    congrArg (sampleInput n s.pins.inputs[n]) (setInputPin_self n s)
  unfold presentSample periodSample isFiltered
  rw [row, stands, Bool.and_assoc]

/-- Each input finds its own settings as the period found them: the samples before it are of other inputs. -/
theorem foldl_presentSample (moment : Bool) (found : CaptureUnit) (pins : Pins) (ns : List (Fin 8)) (apart : ns.Nodup)
    (s : State) (own : s.pins = pins) (stand : ∀ n ∈ ns, s.capture.inputs[n] = found.inputs[n]) :
    ns.foldl (presentSample moment) s = ns.foldl (periodSample moment found pins) s := by
  induction ns generalizing s with
  | nil => rfl
  | cons n ns ih =>
    obtain ⟨new, apart⟩ := List.nodup_cons.1 apart
    have first := presentSample_eq moment found (stand n List.mem_cons_self)
    rw [own] at first
    rw [List.foldl_cons, List.foldl_cons, ← first]
    refine ih apart _ ((presentSample_pins moment s n).trans own) fun m mem => ?_
    rw [presentSample_input moment fun same : m = n => new (by rw [← same]; exact mem)]
    exact stand m (List.mem_cons_of_mem _ mem)

theorem clockInputs_presentSample (s : State) :
    clockInputs s = (List.finRange 8).foldl (presentSample (sampleMomentDue s.capture))
      (withCapture { s.capture with
        samplePhase := if sampleMomentDue s.capture then 0 else s.capture.samplePhase + 1 } s) := by
  unfold clockInputs presentSample
  rfl

theorem clockInputs_eq (s : State) :
    clockInputs s = (List.finRange 8).foldl (periodSample (sampleMomentDue s.capture) s.capture s.pins)
      (withCapture { s.capture with
        samplePhase := if sampleMomentDue s.capture then 0 else s.capture.samplePhase + 1 } s) := by
  rw [clockInputs_presentSample]
  exact foldl_presentSample _ s.capture s.pins _ (List.nodup_finRange 8) _ rfl fun _ _ => rfl

/-! ## The trip pins of a period (R89) -/

/-- A sample of a trip pin leaves every level, and the samples of TCLK. -/
theorem sampleTripPin_pins (pin : Fin 2) (s : State) : (sampleTripPin pin s).pins =
    { s.pins with tripSamples := (sampleTripPin pin s).pins.tripSamples } := by
  unfold sampleTripPin
  dsimp only
  split
  · rw [pinTrip_pins]
    rfl
  · rfl

theorem sampleTripPins_pins (s : State) : (sampleTripPin 1 (sampleTripPin 0 s)).pins =
    { s.pins with tripSamples := (sampleTripPin 1 (sampleTripPin 0 s)).pins.tripSamples } := by
  have second := sampleTripPin_pins 1 (sampleTripPin 0 s)
  rw [sampleTripPin_pins 0 s] at second
  exact second

/-! ## The service under way stands through the events of a period -/

theorem pinTrip_activity (pin : Fin 2) (s : State) : (pinTrip pin s).arbiter.activity = s.arbiter.activity := by
  refine foldl_inv (P := fun t => t.arbiter.activity = s.arbiter.activity) (fun t g kept => ?_) _ s rfl
  split
  · exact kept
  · exact (tripRequest_claims g _ t).1.trans kept
  · exact (tripRequest_claims g _ t).1.trans kept

theorem sampleTripPin_activity (pin : Fin 2) (s : State) :
    (sampleTripPin pin s).arbiter.activity = s.arbiter.activity := by
  unfold sampleTripPin
  dsimp only
  split
  · exact pinTrip_activity pin _
  · rfl

theorem handOff_activity (n : Fin 8) (x : Edge) (time : Time) (s : State) :
    (handOff n x time s).arbiter.activity = s.arbiter.activity := by
  refine foldl_inv (P := fun t => t.arbiter.activity = s.arbiter.activity) (fun t k kept => ?_) _ s rfl
  unfold compareRow answerMatch
  dsimp only
  split
  · split
    · exact (tripMask_claims _ _ _).1.trans kept
    · exact (congrArg Arbiter.activity (offerReaction_arbiter _ _)).trans kept
    · exact (congrArg Arbiter.activity (offerReaction_arbiter _ _)).trans kept
  · exact kept

theorem acceptChange_activity (n : Fin 8) (level : Bool) (time : Time) (s : State) :
    (acceptChange n level time s).arbiter.activity = s.arbiter.activity := by
  unfold acceptChange
  dsimp only
  split
  · split
    · exact (congrArg Arbiter.activity (offerCapture_arbiter ..)).trans (handOff_activity ..)
    · exact handOff_activity ..
  · rfl

theorem presentSample_activity (moment : Bool) (s : State) (n : Fin 8) :
    (presentSample moment s n).arbiter.activity = s.arbiter.activity := by
  unfold presentSample
  split
  · unfold filterStep
    dsimp only
    split
    · exact acceptChange_activity ..
    · rfl
  · unfold sampleInput
    dsimp only
    split
    · rfl
    · split
      · split
        · rfl
        · exact acceptChange_activity ..
      · rfl

theorem clockEvents_activity (s : State) : (clockEvents s).arbiter.activity = s.arbiter.activity := by
  have inputs : ∀ t, (clockInputs t).arbiter.activity = t.arbiter.activity := fun t => by
    rw [clockInputs_presentSample]
    refine foldl_inv (P := fun u => u.arbiter.activity = t.arbiter.activity) (f := presentSample _)
      (fun u n kept => (presentSample_activity _ u n).trans kept) _ _ ?_
    rfl
  unfold clockEvents
  rw [inputs, sampleTripPin_activity, sampleTripPin_activity, clockTimebase_arbiter]

theorem clockEvents_keeps (s : State) :
    Keeps [.timebase, .arbiter, .lines, .groups, .capture, .reactions, .irq, .pins] s (clockEvents s) :=
  (((clockTimebase_keeps s).andThen (sampleTripPin_keeps 0 _)
    (ds := [.timebase, .arbiter, .lines, .groups, .irq, .pins])).andThen (sampleTripPin_keeps 1 _)
    (ds := [.timebase, .arbiter, .lines, .groups, .irq, .pins])).andThen (clockInputs_keeps _)

/-! ## The move of the arbiter (R52, R53, R148) -/

theorem arbiterMove_busy (busy : s.arbiter.activity = some v) :
    arbiterMove s = grantNext (answerAtEnd (advance v s)) := by
  rw [arbiterMove_eq, busy]

theorem arbiterMove_idle (idle : s.arbiter.activity = none) : arbiterMove s = grantNext (answerAtEnd s) := by
  rw [arbiterMove_eq, idle]

theorem answerAtEnd_activity (s : State) : (answerAtEnd s).arbiter.activity = s.arbiter.activity := by
  unfold answerAtEnd
  split
  · exact heldAnswer_activity _ s
  · rfl

theorem answerAtEnd_busy (busy : s.arbiter.activity = some v) : answerAtEnd s = s := by
  unfold answerAtEnd
  split
  · exact heldAnswer_busy _ (by rw [busy]; exact Option.some_ne_none v)
  · rfl

theorem answerAtEnd_free (free : s.port.held = none) : answerAtEnd s = s := by
  unfold answerAtEnd
  rw [free]

/-- At an IDLE agenda a held command has its answer (R148). -/
theorem answerAtEnd_held (idle : s.arbiter.activity = none) : (answerAtEnd s).port.held = none := by
  cases held : s.port.held with
  | none => rw [answerAtEnd_free held, held]
  | some why =>
    unfold answerAtEnd
    rw [held]
    dsimp only
    rw [heldAnswer_idle held idle]
    rfl

/-- While a service is under way nothing is granted (R53). -/
theorem nextClaim_busy (busy : s.arbiter.activity = some v) : nextClaim s = none := by
  cases next : nextClaim s with
  | none => rfl
  | some c => cases busy.symm.trans (nextClaim_idle next).1

theorem grantNext_of_none (next : nextClaim s = none) : grantNext s = s := by
  unfold grantNext
  rw [next]

theorem grantNext_of_some (next : nextClaim s = some c) : grantNext s = firstRequest (granted c s) := by
  unfold grantNext
  rw [next]

/-- The request that a service's moves begin with. -/
def firstAsk : List Task → Option (Fin 16 × Request)
  | .request l r _ :: _ => some (l, r)
  | _ => none

/-- The first request of a service under way: its moves are fewer by it, and the lines answer it (R68). -/
theorem firstRequest_busy (busy : s.arbiter.activity = some v) :
    (∃ todo, (firstRequest s).arbiter.activity = some { v with todo := todo }) ∧
      (firstRequest s).lines =
        (match firstAsk v.todo with
          | some (l, r) => (request l r s).2.lines
          | none => s.lines) := by
  obtain ⟨claim, taken, reserve, record, after, todo⟩ := v
  unfold firstRequest
  rw [busy]
  cases todo with
  | nil => exact ⟨⟨_, busy⟩, rfl⟩
  | cons k ks =>
    cases k with
    | request l r report => exact ⟨⟨_, rfl⟩, rfl⟩
    | _ => exact ⟨⟨_, busy⟩, rfl⟩

/-- The grant of a claim with the first request of its service, which the lines answer as they stood (R53, R68). -/
theorem firstRequest_granted (c : Claim) (s : State) :
    (∃ todo, (firstRequest (granted c s)).arbiter.activity = some { serviceFor c s with todo := todo }) ∧
      (firstRequest (granted c s)).lines =
        (match firstAsk (serviceFor c s).todo with
          | some (l, r) => (request l r s).2.lines
          | none => s.lines) := by
  obtain ⟨under, lines⟩ := firstRequest_busy (granted_activity c s)
  refine ⟨under, lines.trans ?_⟩
  cases firstAsk (serviceFor c s).todo with
  | none => exact granted_lines c s
  | some lr =>
    have asked := request_congr (l := lr.1) (r := lr.2) (s := s) (granted_lines c s) (granted_timebase c s)
    exact congrArg (fun x => x.2.lines) asked

/-- The grant leaves the reaction's record out of the FIFO, and with its first request changes the lines; all else
is as it was (R52, R68). -/
theorem firstRequest_granted_frame (c : Claim) (s : State) : firstRequest (granted c s) = { s with
    arbiter := (firstRequest (granted c s)).arbiter
    lines := (firstRequest (granted c s)).lines
    reactions := { s.reactions with fifo := (firstRequest (granted c s)).reactions.fifo } } := by
  have first := (firstRequest_keeps (granted c s)).eq
  generalize firstRequest (granted c s) = t at first ⊢
  rw [first]
  cases c <;> rfl

theorem firstRequest_granted_reactions (other : c ≠ .reaction) (s : State) :
    (firstRequest (granted c s)).reactions = s.reactions := by
  rw [(firstRequest_keeps (granted c s)).reactions (by decide)]
  cases c with
  | reaction => exact absurd rfl other
  | _ => rfl

/-! ## The request of an act comes first (R27, R68) -/

theorem firstAsk_append_askNothing (record : Option Report) (ks : List Task) :
    firstAsk (askNothing record ++ ks) = if record.isSome then none else firstAsk ks := by
  cases record <;> rfl

/-- The moves behind a request or in its place begin with no request of their own. -/
theorem firstAsk_askFor (asks : Option (Fin 16 × Request)) (record : Option Report) {ks : List Task}
    (quiet : firstAsk ks = none) : firstAsk (askFor asks record ++ ks) = asks := by
  cases asks with
  | some lr => rfl
  | none =>
    refine (firstAsk_append_askNothing record ks).trans ?_
    rw [quiet, ite_self]

theorem firstAsk_departure (h : Handle) (counted : Bool) (ks : List Task) (quiet : firstAsk ks = none) :
    firstAsk (departure h counted ++ ks) = none := by
  cases counted with
  | true => exact quiet
  | false => rfl

theorem firstAsk_settle (e : Entry) (asks : Option (Fin 16 × Request)) (counted : Bool) (due now : Time) (a : Agenda)
    {ks : List Task} (quiet : firstAsk ks = none) :
    firstAsk ((settle e (askFor asks) counted due now a).2 ++ ks) = asks := by
  unfold settle
  split
  · exact firstAsk_askFor asks _ quiet
  · dsimp only
    rw [List.append_assoc]
    exact firstAsk_askFor asks _ (firstAsk_departure _ _ _ quiet)
  · dsimp only
    rw [List.append_assoc, List.append_assoc]
    refine firstAsk_askFor asks _ ((firstAsk_append_askNothing _ _).trans ?_)
    rw [firstAsk_departure _ _ _ quiet, ite_self]

/-- The work of an act begins with its request, where it asks for one. -/
theorem firstAsk_act (e : Entry) (now : Time) (a : Agenda) : firstAsk (act e now a).2 = requestOf e.job := by
  by_cases pulse : ∃ l w p, e.job = .pulse l w p
  · obtain ⟨l, w, p, job⟩ := pulse
    cases p with
    | assertAct =>
      rw [act_assert job, job]
      by_cases late : isLate (e.anchor + ticks w) now = true
      · rw [if_pos late]
        rfl
      · rw [if_neg late]
        rfl
    | returnAct =>
      rw [act_return job]
      have first := firstAsk_settle e (requestOf e.job) false e.due now a (ks := []) rfl
      rwa [List.append_nil] at first
  · rw [act_counted fun l w p job => pulse ⟨l, w, p, job⟩]
    exact firstAsk_settle e _ true e.due now a rfl

/-! ## Settling the period -/

/-- After the held answer and the grant no claim waits at an IDLE agenda and no held command does (R52, R148). -/
theorem grantNext_idle (idle : (grantNext (answerAtEnd s)).arbiter.activity = none) :
    (grantNext (answerAtEnd s)).port.held = none ∧ nextClaim (grantNext (answerAtEnd s)) = none := by
  obtain ⟨next, eq⟩ | ⟨c, -, eq⟩ := grantNext_cases (answerAtEnd s)
  · rw [eq] at idle ⊢
    exact ⟨answerAtEnd_held ((answerAtEnd_activity s).symm.trans idle), next⟩
  · obtain ⟨⟨todo, busy⟩, -⟩ := firstRequest_granted c (answerAtEnd s)
    rw [eq, busy] at idle
    cases idle

theorem arbiterMove_settled (idle : (arbiterMove s).arbiter.activity = none) :
    (arbiterMove s).port.held = none ∧ nextClaim (arbiterMove s) = none := by
  rw [arbiterMove_eq] at idle ⊢
  exact grantNext_idle idle

/-- A service with more than one move to make goes on by one, and the agenda others read stands (R53). -/
theorem arbiterMove_more (busy : s.arbiter.activity = some v) (more : 2 ≤ v.todo.length) :
    (arbiterMove s).agenda = s.agenda ∧ ∃ todo, (arbiterMove s).arbiter.activity = some { v with todo := todo } ∧
      (todo = v.todo.tail ∨ ∃ r, todo = .offer r :: v.todo.tail) := by
  obtain ⟨k, k', ks, todo⟩ : ∃ k k' ks, v.todo = k :: k' :: ks := by
    match v.todo, more with
    | k :: k' :: ks, _ => exact ⟨k, k', ks, rfl⟩
  have goesOn : (runTask k s).2 ++ k' :: ks ≠ [] := List.append_ne_nil_of_right_ne_nil _ (List.cons_ne_nil _ _)
  have next := advance_of_more (s := s) todo goesOn
  have under : (advance v s).arbiter.activity = some { v with todo := (runTask k s).2 ++ k' :: ks } := by
    rw [next]
    rfl
  rw [arbiterMove_busy busy, answerAtEnd_busy under, grantNext_of_none (nextClaim_busy under)]
  refine ⟨?_, _, under, ?_⟩
  · rw [next]
    exact runTask_agenda k s
  · rw [todo]
    obtain none | ⟨r, offer⟩ := runTask_more k s
    · rw [none]
      exact .inl rfl
    · rw [offer]
      exact .inr ⟨r, rfl⟩

theorem runTask_capture {k : Task} (other : k ≠ .resetMoment) (s : State) : (runTask k s).1.capture = s.capture := by
  cases k with
  | request l r record => exact request_capture l r s
  | offer r => exact offerReport_capture r s
  | allocated n =>
    unfold runTask
    dsimp only
    split <;> rfl
  | acted h => exact boundaryAct_capture h s
  | gone h => exact boundaryGone_capture h s
  | resetMoment => exact absurd rfl other
  | purged | endBatch | complete => rfl

/-- Only the reset moment reaches the capture unit (R53, R123). -/
theorem arbiterMove_capture (quiet : ∀ v, s.arbiter.activity = some v → v.todo.head? ≠ some .resetMoment) :
    (arbiterMove s).capture = s.capture := by
  have grant (x : State) : (grantNext x).capture = x.capture := by
    obtain ⟨-, eq⟩ | ⟨c, -, eq⟩ := grantNext_cases x <;> rw [eq]
    rw [(firstRequest_keeps _).capture (by decide), granted_capture]
  rw [arbiterMove_eq, grant, (answerAtEnd_keeps _).capture (by decide)]
  split
  · rename_i v busy
    obtain ⟨-, eq⟩ | ⟨k, ks, todo, -, eq⟩ | ⟨k, ks, todo, -, eq⟩ := advance_cases v s <;> rw [eq]
    · exact (endService_keeps v s).capture (by decide)
    · rw [(endService_keeps v _).capture (by decide)]
      exact runTask_capture (fun reset => quiet v busy (by rw [todo, reset]; rfl)) s
    · exact runTask_capture (fun reset => quiet v busy (by rw [todo, reset]; rfl)) s
  · rfl

/-! ## A period at an IDLE agenda with nothing held (R52, R53, R68) -/

/-- What the grant of an IDLE agenda with nothing held leaves. -/
structure GrantsNext (s t : State) : Prop where
  frame : t = { s with
    arbiter := t.arbiter, lines := t.lines, reactions := { s.reactions with fifo := t.reactions.fifo } }
  takes : s.arbiter.activity = none → ∀ v, t.arbiter.activity = some v →
    v.taken = s.timebase.time ∧ v.reserve = s.agenda.reserve
  stands : nextClaim s = none → t = s

theorem grantsNext (s : State) : GrantsNext s (grantNext s) := by
  obtain ⟨next, eq⟩ | ⟨c, next, eq⟩ := grantNext_cases s <;> rw [eq]
  · exact ⟨rfl, fun idle v busy => (nomatch idle.symm.trans busy), fun _ => rfl⟩
  · refine ⟨firstRequest_granted_frame c s, fun _ v busy => ?_, fun none => (nomatch none.symm.trans next)⟩
    obtain ⟨⟨todo, under⟩, -⟩ := firstRequest_granted c s
    cases under.symm.trans busy
    exact ⟨rfl, rfl⟩

/-- Where the head is due or late its expiry is granted and the request of its act is made (R26, R54, R68). -/
theorem grantNext_expiry (idle : s.arbiter.activity = none) (free : s.port.held = none)
    (list : s.agenda.list = e :: rest) (due : e.due = s.timebase.time ∨ isLate e.due s.timebase.time = true) :
    (grantNext s).lines = linesAfterAct e.job s ∧ (grantNext s).reactions = s.reactions ∧
      ∃ v, (grantNext s).arbiter.activity = some v ∧ v.claim = .expiry := by
  have waits : expiryClaim s = true := expiryClaim_iff.2 ⟨e, rest, list, due.imp_right (isLate_iff _ _).1⟩
  have next : nextClaim s = some .expiry := by
    unfold nextClaim
    rw [idle, free, waits]
    rfl
  obtain ⟨⟨todo, under⟩, lines⟩ := firstRequest_granted .expiry s
  have work : (serviceFor .expiry s).todo = (act e s.timebase.time { s.agenda with list := rest }).2 := by
    change (expiryPlan s.timebase.time s.agenda).2 = _
    unfold expiryPlan
    rw [list]
  rw [work, firstAsk_act] at lines
  rw [grantNext_of_some next]
  exact ⟨lines, firstRequest_granted_reactions (by decide) s, _, under, rfl⟩

/-- Settles O2: the clocked events of the period, and the arbiter's move on the state they leave. -/
theorem emptyQueueStepIsOneClockPeriod : Obligations.EmptyQueueStepIsOneClockPeriod := by
  intro s empty counted x edge counts base guardEnded deferred timed tripped moment sampled
  have sameBase : periodTimebase s.timebase (tclkEdge s.pins) = base := rfl
  have ends : (fun p => endsAt s.lines s.timebase.time p || endsAt s.lines base.time p) = guardEnded := by
    funext p
    dsimp only [endsAt, guardEnded]
    cases s.lines.pairs[p].running <;> rfl
  have defers (l : Fin 16) : deferredOn s.lines.pairs[pairOf l] (sideOf l) = deferred l := by
    dsimp only [deferredOn, deferred]
    cases s.lines.pairs[pairOf l].deferral <;> rfl
  have time : clockTimebase s = timed := by
    rw [clockTimebase_eq, sameBase, guardsEndedAt, ends, guardsEnded]
    simp only [defers]
    rfl
  have capture : tripped.capture = s.capture := by
    change (sampleTripPin 1 (sampleTripPin 0 timed)).capture = _
    rw [sampleTripPin_capture, sampleTripPin_capture]
  have pins : tripped.pins = { timed.pins with tripSamples := tripped.pins.tripSamples } := sampleTripPins_pins timed
  have events : clockEvents s = sampled := by
    have inputs := clockInputs_eq tripped
    rw [capture, pins] at inputs
    unfold clockEvents
    rw [time]
    exact inputs
  have period : step s = .next (arbiterMove sampled) := by
    rw [← events]
    unfold step
    rw [empty]
    rfl
  refine ⟨arbiterMove sampled, period, rfl, ?_⟩
  have sameTime : sampled.timebase = base := by
    rw [← events]
    unfold clockEvents
    rw [clockInputs_timebase, sampleTripPin_timebase, sampleTripPin_timebase, time]
  have samePins : sampled.pins = { timed.pins with tripSamples := tripped.pins.tripSamples } := by
    rw [← events]
    unfold clockEvents
    rw [clockInputs_pins, time]
    exact pins
  have activity : sampled.arbiter.activity = s.arbiter.activity := by
    rw [← events]
    exact clockEvents_activity s
  have keeps := clockEvents_keeps s
  rw [events] at keeps
  have moves := arbiterMove_keeps sampled
  clear_value sampled
  refine ⟨?_, ?_, (moves.timebase (by decide)).trans sameTime, (moves.pins (by decide)).trans samePins,
    fun quiet => ?_, arbiterMove_settled, fun v busy more => ?_, fun idle free => ?_⟩
  · rw [moves.pending (by decide), keeps.pending (by decide), empty]
  · rw [moves.dataOut (by decide), keeps.dataOut (by decide)]
  · exact arbiterMove_capture fun v busy => quiet v (activity.symm.trans busy)
  · obtain ⟨agenda, goesOn⟩ := arbiterMove_more (activity.trans busy) more
    exact ⟨agenda.trans (keeps.agenda (by decide)), goesOn⟩
  · have agenda := keeps.agenda (by decide)
    have free' : sampled.port.held = none := by rw [keeps.port (by decide), free]
    have idle' := activity.trans idle
    have grants := grantsNext sampled
    have move : arbiterMove sampled = grantNext sampled := by
      rw [arbiterMove_idle idle', answerAtEnd_free free']
    rw [← move] at grants
    have frame := grants.frame
    refine ⟨?_, ?_, ?_, ?_, fun v under => ?_, frame, grants.stands, fun e rest list due => ?_⟩
    · rw [frame, agenda]
    · rw [frame, keeps.batch (by decide)]
    · rw [frame, keeps.reports (by decide)]
    · rw [frame, keeps.port (by decide)]
    · obtain ⟨taken, reserve⟩ := grants.takes idle' v under
      exact ⟨taken.trans (congrArg Timebase.time (moves.timebase (by decide)).symm),
        reserve.trans (congrArg Agenda.reserve agenda)⟩
    · rw [move]
      exact grantNext_expiry idle' free' (agenda ▸ list) (sameTime ▸ due)

end Sys2Proof.Machine
end
